-- ==== Sys2Proof/Word.lean ====
section
/-! DEFINITION. Word.lean: the word types of the engine (bytes of a link, sequence numbers, masks) and their plainest
arithmetic. Everything the manual counts is a `Nat` or an `Int`; a bit vector stands only where the manual speaks of
bits (a byte on a link, a mask) or of a number that wraps (a sequence number, the generation). -/

namespace Sys2Proof

/-- One character on a link of the engine: eight data bits. -/
abbrev Byte := BitVec 8

/-- A text as characters (R53: codes 0x20..0xFE). -/
abbrev Chars := List Byte

/-- table_seq, wall_seq, commit_seq, a `rev` or a `seq` (00_scope, "Sequence numbers"). -/
abbrev Seq := BitVec 32

/-- A 16-bit number that wraps: the generation (R111), the report sequence and the dropped count (R184). -/
abbrev Count16 := BitVec 16

/-- A set of public-address zones, bit k - 1 for zone k. -/
abbrev Zones := BitVec 8

/-- A set of platforms, bit p - 1 for platform p. -/
abbrev Platforms := BitVec 48

/-- A set of strings, bit n - 1 for string n. -/
abbrev Strings := BitVec 16

/-- One of the sixteen strings: the value is the string's number less one. -/
abbrev StringNo := Fin 16

/-- One of the thirteen monitored inputs: 0..11 are EL1..EL12, 12 is REF. -/
abbrev LineNo := Fin 13

end Sys2Proof
end

