-- ==== Sys2Proof/Syntax.lean ====
section
/-! DEFINITION. Syntax.lean: the commands of the engine, one constructor of `Instr` for each row of
spec/opcode_table.json. Three kinds of row: requests of the host (`Request` holds their typed bodies), levels, frames
and characters that arrive at a pin, and expiries of the engine's own timers.

Operand conventions. `dt` is the elapsed time in microseconds from the command before to this one (an expiry carries
none: it comes at its timer). `tag` is the tag of the host frame. `StringNo`, `LineNo` and the other `Fin` operands
count from 0. Request operands are the raw numbers of the request body: the owner's rule judges them. -/

namespace Sys2Proof

/-- Body of LINE_SET (R30, R31): an event line by number, or REF. -/
inductive LineSetReq where
  | event (line polarity minHigh maxHigh minLow role platform : Nat)
  | ref (polarity minLow maxHigh secLo secHi minLo minHi role : Nat)
  deriving DecidableEq, Repr

/-- Body of SERVICE_PUT (R40; layout in 11.5). -/
structure ServicePutReq where
  code : Nat
  schedHm : Nat
  delay : Nat
  platform : Nat
  side : Nat
  dest : Nat
  remark : Nat
  operator : Nat
  boardLead : Nat
  vias : List Nat
  deriving DecidableEq, Repr

/-- Body of SERVICE_AMEND (R43): four parts, each present or absent. -/
structure AmendReq where
  code : Nat
  delay : Option Nat
  platform : Option (Nat × Nat)
  remark : Option Nat
  target : Option Nat
  deriving DecidableEq, Repr

/-- Body of LIFECYCLE_SET (R59). -/
structure LifecycleReq where
  boardLead : Nat
  closeLead : Nat
  departedHold : Nat
  cancelHold : Nat
  abandon : Nat
  changeDisplay : Nat
  deriving DecidableEq, Repr

/-- The scope of a notice (R71). -/
inductive Scope where
  | wall
  | platforms (mask : Platforms)
  | service (code : Nat)
  deriving DecidableEq, Repr

/-- Body of NOTICE_PUT (R73). -/
structure NoticePutReq where
  id : Nat
  text : Nat
  scope : Scope
  priority : Nat
  startMs : Option Nat
  endMs : Option Nat
  period : Nat
  deriving DecidableEq, Repr

/-- The source of a window with its parameters (R78), raw. -/
inductive SourceReq where
  | departures (mask : Platforms) (departed cancelled : Bool) (offset : Nat)
  | platform (p : Nat)
  | clock
  | ticker (mask : Platforms)
  | fixed (text : Nat)
  | unknown (code : Nat)
  deriving DecidableEq, Repr

/-- One window record of VIEW_SET (R79). -/
structure WindowReq where
  enabled : Bool
  firstRow : Nat
  rowCount : Nat
  source : SourceReq
  period : Nat
  deriving DecidableEq, Repr

/-- Body of COMMIT_SET (R117). -/
structure CommitSetReq where
  settle : Nat
  deadline : Nat
  stagger : Nat
  batchLimit : Nat
  refresh : Nat
  reports : Bool
  deriving DecidableEq, Repr

/-- Body of STRING_SET (R120). -/
structure StringSetReq where
  string : Nat
  enable : Bool
  divI : Nat
  divF : Nat
  modules : Nat
  rows : Nat
  group : Nat
  flow : Nat
  pause : Byte
  resume : Byte
  timeout : Nat
  retries : Nat
  deriving DecidableEq, Repr

/-- Body of POLICY_SET (R145). `a`, `b`, `c`, `d` are the kind's further settings in the order of R145's table: for DELAY
threshold, step, repeat period, repeats; for APPROACH approach lead, trigger delay; unused otherwise. -/
structure PolicyReq where
  kind : Nat
  enable : Bool
  priority : Nat
  a : Nat
  b : Nat
  c : Nat
  d : Nat
  deriving DecidableEq, Repr

/-- Body of CUE_PUT (R154). A field the mode does not carry is 0. -/
structure CuePutReq where
  kind : Nat
  subject : Nat
  mode : Nat
  zones : Zones
  priority : Nat
  line : Nat
  delayS : Nat
  periodS : Nat
  repeats : Nat
  leadMin : Nat
  deriving DecidableEq, Repr

/-- A request as the dispatcher hands it to its owner (R182): its kind's typed body, or what is wrong with it. -/
inductive Request where
  | timeSet (h : Nat)
  | timeStep (minutes : Int)
  | clockSet (mode d : Nat)
  | lineSet (r : LineSetReq)
  | lineClear (lines : Nat)
  | servicePut (r : ServicePutReq)
  | serviceAmend (r : AmendReq)
  | serviceDrop (code : Nat)
  | textPut (index : Nat) (chars : Chars)
  | textDrop (index : Nat)
  | lifecycleSet (r : LifecycleReq)
  | noticePut (r : NoticePutReq)
  | noticeDrop (id : Nat)
  | viewSet (string : Nat) (w0 w1 w2 w3 : WindowReq)
  | composeSet (minutes : Nat)
  | batchOpen
  | batchClose
  | commitSet (r : CommitSetReq)
  | stringSet (r : StringSetReq)
  | linkTest (string : Nat)
  | policySet (r : PolicyReq)
  | zoneMapSet (platforms : List Zones) (concourse : Zones)
  | cuePut (r : CuePutReq)
  | cueCancel (handle : Nat)
  | auSet (startTimeout playLimit stopWait : Nat)
  | dialLineSet (line : Nat) (enable : Bool) (width : Nat)
  | dialSet (line dial polarity : Nat)
  | query (subject parameter first count : Nat)
  | restart
  | linkSet (rate : Nat)
  /-- A body that does not match the layout of its kind (R182). -/
  | malformed
  /-- A kind that is not a request kind (R182). -/
  | unknownKind
  deriving DecidableEq, Repr

/-- One character received on a serial line: its byte, and whether its stop bit was found. -/
structure RxChar where
  byte : Byte
  framed : Bool
  deriving DecidableEq, Repr

/-- Characters that arrive on a line at one instant, and the time `dt` of that arrival. -/
structure Arrival where
  dt : Nat
  chars : List RxChar
  deriving DecidableEq, Repr

/-- The flags of a STATUS frame (R132). -/
structure ModuleFlags where
  contentLost : Bool
  lampFault : Bool
  overheat : Bool
  mismatch : Bool
  deriving DecidableEq, Repr

/-- The commands: one constructor for each row of spec/opcode_table.json, in the table's order. -/
inductive Instr where
  | powerOnReset
  | nominalSecond
  | secondEvent
  | watchExpiry
  | timeSet (dt tag h : Nat)
  | timeStep (dt tag : Nat) (minutes : Int)
  | clockSet (dt tag mode d : Nat)
  | lineSet (dt tag : Nat) (r : LineSetReq)
  | lineClear (dt tag lines : Nat)
  | lineRisingEdge (dt : Nat) (line : LineNo)
  | lineFallingEdge (dt : Nat) (line : LineNo)
  | lineRearmed (line : LineNo)
  | gapConfirmed (line : LineNo)
  | qualificationTime (line : LineNo)
  | maxHighPassed (line : LineNo)
  | servicePut (dt tag : Nat) (r : ServicePutReq)
  | serviceAmend (dt tag : Nat) (r : AmendReq)
  | serviceDrop (dt tag code : Nat)
  | textPut (dt tag index : Nat) (chars : Chars)
  | textDrop (dt tag index : Nat)
  | lifecycleSet (dt tag : Nat) (r : LifecycleReq)
  | noticePut (dt tag : Nat) (r : NoticePutReq)
  | noticeDrop (dt tag id : Nat)
  | viewSet (dt tag string : Nat) (w0 w1 w2 w3 : WindowReq)
  | composeSet (dt tag minutes : Nat)
  | pageExpiry (string : StringNo) (slot : Fin 4)
  | settleExpiry
  | stagingDeadlineExpiry
  | staggerExpiry
  | pulseEnd (string : StringNo)
  | batchOpen (dt tag : Nat)
  | batchClose (dt tag : Nat)
  | batchExpired
  | commitSet (dt tag : Nat) (r : CommitSetReq)
  | sweepExpiry
  | stringSet (dt tag : Nat) (r : StringSetReq)
  | linkTest (dt tag string : Nat)
  /-- Characters that come back at one instant inside a channel under test; with none, the test hears nothing for `dt`. -/
  | linkTestResult (dt : Nat) (string : StringNo) (chars : List RxChar)
  | pollTick (string : StringNo)
  | frameBegin (string : StringNo)
  | frameSent (string : StringNo)
  | replyTimeout (string : StringNo)
  /-- No character arrives on the string's data line for `dt`. -/
  | replyGap (dt : Nat) (string : StringNo)
  /-- Characters that arrive on the string's data line one after another without a gap: a reply that turns out void, or any run of
  characters. -/
  | voidReply (arrival : Arrival) (string : StringNo)
  /-- A whole reply with a good check; `moduleNo` counts from 1, the rows from 0 (11.5). -/
  | ackStage (dt : Nat) (string : StringNo) (moduleNo moduleRow stringRow : Nat) (reject : Bool)
  /-- A whole reply with a good check; `moduleNo` counts from 1. -/
  | status (dt : Nat) (string : StringNo) (moduleNo : Nat) (flags : ModuleFlags)
  | pauseCode (dt : Nat) (string : StringNo)
  | resumeCode (dt : Nat) (string : StringNo)
  | busyReturn (dt : Nat) (string : StringNo) (asserted : Bool)
  | stalled (string : StringNo)
  | recovered (string : StringNo)
  | policySet (dt tag : Nat) (r : PolicyReq)
  | zoneMapSet (dt tag : Nat) (platforms : List Zones) (concourse : Zones)
  | cuePut (dt tag : Nat) (r : CuePutReq)
  | cueCancel (dt tag handle : Nat)
  | cueDelayExpiry (slot : Fin 32)
  | cuePeriodExpiry (slot : Fin 32)
  | cueAging (slot : Fin 32)
  | startSent (dt : Nat) (channel : Fin 4)
  | playing (dt handle : Nat)
  | refused (dt handle reason : Nat)
  | startTimeout (channel : Fin 4)
  | done (dt handle : Nat)
  | playLimitExpiry (channel : Fin 4)
  | stopped (dt handle : Nat)
  | stopWaitExpiry (channel : Fin 4)
  | statusReply (dt : Nat) (faults : Byte)
  | statusTimerExpiry
  /-- No character arrives on AU_RXD for `dt`. -/
  | auGap (dt : Nat)
  /-- Characters that arrive on AU_RXD one after another without a gap: a frame, or any run of characters. -/
  | auFrameDiscarded (arrival : Arrival)
  | auSet (dt tag startTimeout playLimit stopWait : Nat)
  | dialLineSet (dt tag line : Nat) (enable : Bool) (width : Nat)
  | dialSet (dt tag line dial polarity : Nat)
  | dialPulseEnd (line : Fin 4)
  | dialRestEnd (line : Fin 4)
  /-- Characters that arrive on CL_RXD one after another without a gap: a whole frame, or any run of characters. -/
  | requestFrame (dt : Nat) (chars : List RxChar)
  /-- No character arrives on CL_RXD for `dt`. -/
  | clGap (dt : Nat)
  | replySent (dt : Nat)
  /-- A complete frame with an empty body whose kind is not a request kind. -/
  | unknownKind (dt tag kind : Nat)
  | hostReady (dt : Nat) (asserted : Bool)
  | query (dt tag subject parameter first count : Nat)
  | linkSet (dt tag rate : Nat)
  | restart (dt tag : Nat)
  deriving DecidableEq, Repr

end Sys2Proof
end

