-- ==== Sys2Proof/Config.lean ====
section
/-! DEFINITION. Config.lean: the fixed figures of the GZ-1640 (00_scope, "Fixed capacities and ranges", and the rules
named beside each) and the free values: what the manual gives an effect but states no value for. A free value is a
constant without a body, so nothing can be proved of its value. -/

namespace Sys2Proof.Config

/-- Microseconds of the clock day (R1). -/
def dayUs : Nat := 86400000000
/-- Milliseconds of the clock day (R6). -/
def dayMs : Nat := 86400000
/-- Microseconds of a nominal second (R1). -/
def secondUs : Nat := 1000000
/-- Microseconds of a station minute (R4). -/
def minuteUs : Nat := 60000000
/-- Service records (R35). -/
def maxServices : Nat := 128
/-- Cells of the Text Pool (R53). -/
def poolCells : Nat := 1536
/-- Notices (R71). -/
def maxNotices : Nat := 32
/-- Cues (R138). -/
def maxCues : Nat := 32
/-- Request queue (R181). -/
def requestDepth : Nat := 8
/-- Report queue (R184). -/
def reportDepth : Nat := 32
/-- The bit rate of the announcement link (R161). -/
def auRate : Nat := 115200
/-- Where a count of the manual saturates (R27, R32, R128, R161, R180). -/
def countTop : Nat := 65535
/-- Largest body length from the host (R179). -/
def maxRequestBody : Nat := 1028
/-- Largest reply body (R185). -/
def maxReplyBody : Nat := 4096
/-- A latch pulse, in microseconds (R100). -/
def latchUs : Nat := 1000
/-- A blank pulse, in microseconds (R100). -/
def blankUs : Nat := 10000
/-- The poll period, in microseconds (R125). -/
def pollUs : Nat := 2000000
/-- The hold limit of a HELD channel, in microseconds (R133). -/
def holdUs : Nat := 1000000
/-- The stay in FAULTED, in microseconds (R134). -/
def faultUs : Nat := 5000000
/-- The period of STATUS frames while UNAVAILABLE, in microseconds (R168). -/
def statusUs : Nat := 5000000
/-- One minute of queueing, in microseconds (R159). -/
def agingUs : Nat := 60000000

/-- FREE VALUE (DESIGN CHOICE, notes/assumptions/8.md). R150 asks whether a numeric delay differs from `announced_delay` by at
least the step; R166 may have recorded INDEFINITE there, and the manual does not say whether a number differs from
INDEFINITE by the step. Arguments: the new delay and the step. -/
opaque indefiniteDiffers : Nat → Nat → Bool

/-- FREE VALUE (DESIGN CHOICE, notes/assumptions/9.md). The page count of a DEPARTURES window that is clipped out of its string
(R81) divides by a row count of 0 in R89; the manual states no result. Argument: the number of entries E. -/
opaque clippedPages : Nat → Nat

end Sys2Proof.Config
end

