-- ==== Sys2Proof/Machine/State.lean ====
section
/-! DEFINITION. Machine/State.lean: the state of the engine as plain data, block by block in the manual's order, the reasons a
step can stop, and the state after the power-on reset. Elapsed times are in microseconds since power-on (R2), station
times in the unit each field names. A field marked MODEL'S OWN is not a piece of state of the manual. -/

namespace Sys2Proof.Machine

/-! ## Time Base (chapter 1) -/

/-- Validity of station time (R3): UNSET or SET. -/
inductive Validity where
  | unsetTime
  | setTime
  deriving DecidableEq, Repr

/-- Reference mode (R12). -/
inductive RefMode where
  | none
  | second
  | minute
  deriving DecidableEq, Repr

/-- Reference state (R14 to R16). -/
inductive RefState where
  | free
  | acquiring
  | locked
  | holdover
  deriving DecidableEq, Repr

/-- The Time Base (chapter 1). Station time T is `base` plus the part of `increment` run since the start of the nominal
second (R1); a step moves `base` (R7). -/
structure TimeBase where
  /-- Elapsed time (R2). -/
  elapsed : Nat
  validity : Validity
  /-- T at the start of the present nominal second (R1). -/
  base : Nat
  /-- The increment fixed for the present nominal second (R1). -/
  increment : Nat
  /-- F, the rate trim (R18). -/
  trim : Int
  /-- S, the pending slew (R1, R18). -/
  slew : Int
  mode : RefMode
  refState : RefState
  lastPulse : Option Nat
  pendingStep : Option Int
  trimLimit : Bool
  /-- D, the day-start minute (R5, R12). -/
  dayStart : Nat
  rollHeld : Bool
  stepMark : Option Nat
  lastError : Option Int
  /-- Expiry of the LOCKED watch (R15). -/
  watch : Option Nat
  /-- MODEL'S OWN: station times of the whole seconds that running T has passed and whose second event (R4) has not been
  taken yet, oldest first. -/
  due : List Nat
  deriving DecidableEq, Repr

/-! ## Line Monitor (chapter 2) -/

/-- Which level is active (2.1). -/
inductive Polarity where
  | activeHigh
  | activeLow
  deriving DecidableEq, Repr

/-- Role of an event line (R28). -/
inductive Role where
  | none
  | approach (platform : Nat)
  | dispatch (platform : Nat)
  deriving DecidableEq, Repr

/-- State of a monitor (R21). -/
inductive MonState where
  | rearm
  | idle
  | pending
  | active
  | suspended
  deriving DecidableEq, Repr

/-- One monitor (chapter 2). Marks are elapsed times in microseconds, durations whole milliseconds. -/
structure Monitor where
  polarity : Polarity
  minHigh : Nat
  maxHigh : Nat
  minLow : Nat
  role : Role
  state : MonState
  /-- Rise mark (R22). -/
  rise : Option Nat
  /-- Station time read at the rise mark, REF only (R29). -/
  riseTime : Option Nat
  /-- Gap mark (R22). -/
  gap : Option Nat
  /-- End of the previous active level: the falling edge that opened the confirming gap (R27). -/
  lastEnd : Option Nat
  /-- In REARM, the start of the inactive level being waited on (R21). -/
  quietFrom : Option Nat
  lastHigh : Nat
  lastLow : Nat
  highShort : Bool
  highLong : Bool
  stuck : Bool
  glitches : Nat
  lastGlitch : Option Nat
  /-- The electrical level of the input pin: true is high. -/
  pin : Bool
  deriving DecidableEq, Repr

/-- The REF monitor's two acceptance windows in milliseconds (R29, R31). -/
structure RefWindows where
  secLo : Nat
  secHi : Nat
  minLo : Nat
  minHi : Nat
  deriving DecidableEq, Repr

/-! ## Service Table, Text Pool, Notice List, lifecycle policy (chapters 3 and 4) -/

/-- A delay (R37). -/
inductive Delay where
  | minutes (n : Nat)
  | indefinite
  deriving DecidableEq, Repr

/-- Side letter of a platform (3.1). -/
inductive Side where
  | none
  | a
  | b
  deriving DecidableEq, Repr

/-- Lifecycle state (3.1). -/
inductive SvcState where
  | planned
  | boarding
  | closing
  | departed
  | cancelled
  deriving DecidableEq, Repr

/-- The PLATFORM_CHANGE cue of the latest platform change (R64, R65). -/
structure ChangeCue where
  handle : Nat
  heard : Bool
  deriving DecidableEq, Repr

/-- A service record (3.1, R64). -/
structure Service where
  code : Nat
  schedHm : Nat
  schedSm : Int
  delay : Delay
  effSm : Int
  platform : Nat
  side : Side
  /-- `prev_platform` and `prev_side`. -/
  prev : Option (Nat × Side)
  changeMs : Option Nat
  dest : Nat
  vias : List Nat
  remark : Option Nat
  operator : Nat
  boardLead : Nat
  state : SvcState
  overdue : Bool
  attention : Bool
  departedMs : Option Nat
  announced : Option Delay
  changeCue : Option ChangeCue
  rev : Seq
  deriving DecidableEq, Repr

/-- A stored text (3.6). -/
structure StoredText where
  index : Nat
  chars : Chars
  cells : Nat
  uses : Nat
  rev : Seq
  deriving DecidableEq, Repr

/-- A notice record (R71). -/
structure Notice where
  id : Nat
  text : Nat
  scope : Scope
  priority : Nat
  startMs : Option Nat
  endMs : Option Nat
  period : Nat
  startOff : Option Int
  endOff : Option Int
  active : Bool
  rev : Seq
  deriving DecidableEq, Repr

/-- The six policy values (R59). -/
structure Lifecycle where
  boardLead : Nat
  closeLead : Nat
  departedHold : Nat
  cancelHold : Nat
  abandon : Nat
  changeDisplay : Nat
  deriving DecidableEq, Repr

/-! ## Composer (chapter 5) -/

/-- Status of a departure row with its parameter (R91). -/
inductive RowStatus where
  | cancelled
  | departed
  | platformChanged (fromText : Chars)
  | closing
  | delayed
  | expected (hhmm : Chars)
  | dueIn (n : Nat)
  | due
  | boarding
  | onTime
  deriving DecidableEq, Repr

/-- A row record (R90): each kind with the fields present for it. -/
inductive RowRec where
  | departureMain (time dest : Chars) (vias : List Chars) (platform : Chars) (operator : Nat) (status : RowStatus)
      (remark : Option Chars) (attention : Bool)
  | departureBrief (time dest platform : Chars) (operator : Nat) (status : RowStatus) (attention : Bool)
  | clock (time : Chars)
  | notice (text : Chars)
  | fixed (text : Chars)
  | empty
  deriving DecidableEq, Repr

/-- Source of a window with its parameters (R78). -/
inductive Source where
  | departures (mask : Platforms) (departed cancelled : Bool) (offset : Nat)
  | platform (p : Nat)
  | clock
  | ticker (mask : Platforms)
  | fixed (text : Nat)
  deriving DecidableEq, Repr

/-- A window record (R78) with its page timer (R77). -/
structure Window where
  enabled : Bool
  firstRow : Nat
  rowCount : Nat
  source : Source
  period : Nat
  pageIndex : Nat
  pageTimer : Option Nat
  deriving DecidableEq, Repr

/-- What the Composer keeps of one string (R77); the row total is read from the string's settings. -/
structure View where
  windows : Vector Window 4
  targets : List RowRec
  deriving DecidableEq, Repr

/-! ## Commit Controller (chapter 6) -/

/-- Commit state (chapter 6). -/
inductive CommitState where
  | quiet
  | settling
  | staging
  | latchA
  | latchB
  deriving DecidableEq, Repr

/-- A string's part in the present commit (chapter 6). -/
inductive Part where
  | none
  | staging
  | staged
  | failed
  | withdrawn
  deriving DecidableEq, Repr

/-- Why a string failed (R106 to R109). -/
inductive FailCause where
  | faulted
  | lostModule
  | rejected
  | givenUp
  | deadline
  deriving DecidableEq, Repr

/-- Lit state of a string (R99). -/
inductive Lit where
  | lit
  | dark
  deriving DecidableEq, Repr

/-- One row of a staged set (R105), and whether it has been acknowledged (R108). -/
structure StagedRow where
  row : Nat
  rowRec : RowRec
  acked : Bool
  deriving DecidableEq, Repr

/-- What the Commit Controller keeps of one string. -/
structure Wall where
  shown : List RowRec
  lit : Lit
  restage : Bool
  part : Part
  staged : List StagedRow
  cause : Option FailCause
  deriving DecidableEq, Repr

/-- A pulse on a latch line (R100). -/
inductive PulseKind where
  | latch
  | blank
  deriving DecidableEq, Repr

/-- A pulse asked for; `ofCommit` marks a pulse sent under R110 by the present commit. -/
structure Pulse where
  kind : PulseKind
  ofCommit : Bool
  deriving DecidableEq, Repr

/-- One latch line: the pulse on it (at the head) and those that follow it, and the end of the pulse on it (R100). -/
structure LatchLine where
  pulses : List Pulse
  ends : Option Nat
  deriving DecidableEq, Repr

/-- The settings of COMMIT_SET (R117), in milliseconds and seconds as given there. -/
structure CommitSettings where
  settle : Nat
  deadline : Nat
  stagger : Nat
  batchLimit : Nat
  refresh : Nat
  reports : Bool
  deriving DecidableEq, Repr

/-- The Commit Controller but for its strings (chapter 6). In SETTLING an absent settle timer has expired or been skipped. -/
structure Commit where
  state : CommitState
  commitSeq : Seq
  wallSeq : Seq
  generation : Count16
  minutePending : Bool
  settleTimer : Option Nat
  deadlineTimer : Option Nat
  staggerTimer : Option Nat
  /-- The batch is OPEN. -/
  batchOpen : Bool
  batchTimer : Option Nat
  sweepTimer : Option Nat
  /-- String last given restage-all by the sweep. -/
  sweepPos : Option StringNo
  settings : CommitSettings
  deriving DecidableEq, Repr

/-! ## String Links (chapter 7) -/

/-- Latch group (R120). -/
inductive Group where
  | a
  | b
  deriving DecidableEq, Repr

/-- Flow mode (R120). -/
inductive FlowMode where
  | none
  | busyLine
  | pauseCodes
  deriving DecidableEq, Repr

/-- Settings of a string (R120). -/
structure StringSettings where
  enabled : Bool
  divI : Nat
  divF : Nat
  modules : Nat
  rows : Nat
  group : Group
  flow : FlowMode
  pause : Byte
  resume : Byte
  timeout : Nat
  retries : Nat
  deriving DecidableEq, Repr

/-- State of a channel (R123). -/
inductive ChanState where
  | off
  | ready
  | sending
  | waiting
  | held
  | faulted
  deriving DecidableEq, Repr

/-- A frame for a module (R124). Modules count from 1, rows from 0. -/
inductive Frame where
  | stageRow (moduleNo moduleRow stringRow : Nat) (rowRec : RowRec)
  | poll (moduleNo : Nat)
  deriving DecidableEq, Repr

/-- A frame in the queue of a channel, with the attempts already begun for it (R126, R128). -/
structure QueuedFrame where
  frame : Frame
  attempts : Nat
  deriving DecidableEq, Repr

/-- The exchange on the line (R126 to R130). -/
structure Exchange where
  frame : Frame
  attempt : Nat
  /-- R130. -/
  orphan : Bool
  /-- While SENDING, the end of the frame's last character. -/
  sendEnds : Option Nat
  /-- While WAITING, the expiry of the reply timer, which the first character of the reply stops (R127). -/
  replyTimer : Option Nat
  /-- While WAITING, the characters received of the reply (R127). -/
  reply : List Byte
  deriving DecidableEq, Repr

/-- A LINK_TEST in progress (R136): waiting for an exchange to end, or running, with the characters received so far and the end
of its wait, two byte times after the sixteenth character is due. -/
inductive LinkTest where
  | waiting
  | running (received : List RxChar) (waitEnds : Nat)
  deriving DecidableEq, Repr

/-- Health of a module (R131). -/
inductive Health where
  | ok
  | suspect
  | lost
  deriving DecidableEq, Repr

/-- A module record (R131, R132). -/
structure ModuleRec where
  health : Health
  missed : Nat
  flags : ModuleFlags
  reject : Bool
  deriving DecidableEq, Repr

/-- One string channel (chapter 7). -/
structure Channel where
  settings : StringSettings
  state : ChanState
  queue : List QueuedFrame
  exchange : Option Exchange
  flowStopped : Bool
  /-- The BSY pin is asserted. -/
  busy : Bool
  holdTimer : Option Nat
  faultTimer : Option Nat
  pollTimer : Option Nat
  pollPtr : Nat
  test : Option LinkTest
  timedOut : Nat
  voids : Nat
  rejects : Nat
  modules : Vector ModuleRec 8
  /-- Elapsed time of the last character received, for the quiet rule (R126) and the gap rule (R127). -/
  lastChar : Option Nat
  deriving DecidableEq, Repr

/-! ## Cue Scheduler (chapter 8) -/

/-- Who made a cue (R138). -/
inductive Origin where
  | auto
  | host
  deriving DecidableEq, Repr

/-- What is announced (R138, numbered as in START). -/
inductive CueKind where
  | platformChange
  | delay
  | approach
  | boarding
  | cancellation
  | notice
  | custom
  deriving DecidableEq, Repr

/-- When a cue goes (R140). -/
inductive CueMode where
  | oneShot
  | triggered
  | periodic
  | triggeredPeriodic
  | anchored
  deriving DecidableEq, Repr

/-- Progress of a cue (R138, R140). -/
inductive CueState where
  | armed
  | delaying
  | pendingWall
  | queued
  | starting
  | playing
  deriving DecidableEq, Repr

/-- A cue record (R138). -/
structure Cue where
  handle : Nat
  slot : Nat
  origin : Origin
  kind : CueKind
  subject : Nat
  mode : CueMode
  line : Option Nat
  delayS : Option Nat
  periodS : Option Nat
  repeatsLeft : Option Nat
  leadMin : Option Nat
  zones : Zones
  priority : Nat
  seq : Seq
  oldPlatform : Option Nat
  timer : Option Nat
  queuedAt : Option Nat
  startedDelay : Option Delay
  preempted : Bool
  state : CueState
  /-- MODEL'S OWN: the subject left its table while the cue was playing, so its end removes it (R153). -/
  subjectGone : Bool
  /-- MODEL'S OWN: while QUEUED, how many of the changes of its effective priority (R159) lie behind. -/
  aged : Nat
  deriving DecidableEq, Repr

/-- Auto-cue policy of one kind that has only an enable and a priority (R145). -/
structure KindPolicy where
  enable : Bool
  priority : Nat
  deriving DecidableEq, Repr

/-- The auto-cue policy (R145). -/
structure CuePolicy where
  platformChange : KindPolicy
  delay : KindPolicy
  delayThreshold : Nat
  delayStep : Nat
  delayPeriod : Nat
  delayRepeats : Nat
  boarding : KindPolicy
  approach : KindPolicy
  approachLead : Nat
  approachDelay : Nat
  cancellation : KindPolicy
  notice : KindPolicy
  deriving DecidableEq, Repr

/-! ## Announcement Link (chapter 9) -/

/-- Phase of a play channel (R157). -/
inductive Phase where
  | free
  | starting
  | playing
  | stopping
  deriving DecidableEq, Repr

/-- A play record (R157). -/
structure Play where
  handle : Nat
  origin : Origin
  kind : CueKind
  subject : Nat
  zones : Zones
  priority : Nat
  startedDelay : Option Delay
  startAt : Nat
  deriving DecidableEq, Repr

/-- One play channel (chapter 9); `play` is absent exactly when FREE. -/
structure PlayChannel where
  phase : Phase
  play : Option Play
  timer : Option Nat
  deriving DecidableEq, Repr

/-- The fields of a START that come from the subject (R162). -/
inductive StartFields where
  | service (time dest : Chars) (vias : List Chars) (operator : Nat) (platform : Chars) (fromPlatform : Option Chars)
      (delay : Option (Delay × Chars))
  | text (chars : Chars)
  deriving DecidableEq, Repr

/-- A frame the engine sends to the announcement unit (9.3). -/
inductive AuFrame where
  | start (handle channel : Nat) (zones : Zones) (kind : CueKind) (fields : StartFields)
  | stop (handle : Nat)
  | status
  deriving DecidableEq, Repr

/-- Progress of the frame being received on CL_RXD or AU_RXD (R179, R161), with what has been taken of it. -/
inductive Receiver where
  | hunt
  | header (got : List Byte)
  | body (kind tag length : Nat) (got : List Byte)
  | check (kind tag : Nat) (body : List Byte) (got : List Byte)
  deriving DecidableEq, Repr

/-- The Announcement Link (chapter 9). -/
structure AnnLink where
  channels : Vector PlayChannel 4
  available : Bool
  timeouts : Nat
  statusTimer : Option Nat
  /-- Fault flags of the last status reply, or none. -/
  unitStatus : Option Byte
  startTimeout : Nat
  playLimit : Nat
  stopWait : Nat
  received : Nat
  discarded : Nat
  stray : Nat
  /-- The receiver on AU_RXD (R161). -/
  rx : Receiver
  /-- Elapsed time of the last character of the frame being received, for the gap rule (R180). -/
  rxAt : Option Nat
  /-- MODEL'S OWN: the frames the latest command handed to the transmitter, in the order made. -/
  made : List AuFrame
  deriving DecidableEq, Repr

/-! ## Dial Drivers (chapter 10) -/

/-- Polarity of an impulse (R171). -/
inductive Impulse where
  | plus
  | minus
  deriving DecidableEq, Repr

/-- State of a slave clock line (R174). -/
inductive DialState where
  | stopped
  | idle
  | pulsing
  | catchingUp
  | holding
  deriving DecidableEq, Repr

/-- Drive of a slave clock line (R171). -/
inductive Drive where
  | quiet
  | driving
  | resting
  deriving DecidableEq, Repr

/-- The line record of R171. -/
structure DialLine where
  enabled : Bool
  width : Nat
  dial : Nat
  next : Impulse
  distance : Nat
  state : DialState
  drive : Drive
  timer : Option Nat
  pending : Option (Nat × Impulse)
  deriving DecidableEq, Repr

/-! ## Reports and replies (chapters 1 to 11) -/

/-- Reason of a retirement (R50). -/
inductive RetireReason where
  | dropped
  | earlyForSpace
  | departed
  | cancelled
  | abandoned
  | dayRoll
  deriving DecidableEq, Repr

/-- Reason of NOTICE_ENDED (R74, R75). -/
inductive NoticeEnd where
  | expired
  | subjectRetired
  deriving DecidableEq, Repr

/-- Kind of LINE_ALARM (R32). -/
inductive AlarmKind where
  | stuckEntry
  | stuckExit
  | highShort
  | highLong
  deriving DecidableEq, Repr

/-- Cause of STRING_STATE (R112, R114, R134, R135). -/
inductive StringCause where
  | latched
  | failed (cause : FailCause)
  | stringSet
  | stalled
  | recovered
  deriving DecidableEq, Repr

/-- Result of a link test (R136). -/
inductive TestResult where
  | same
  | mismatch
  | abandoned
  deriving DecidableEq, Repr

/-- Event of CUE_STATE with its reason (R139, R167). -/
inductive CueEvent where
  | withdrawnInvalid
  | withdrawnSubjectRetired
  | withdrawnSubjectCancelled
  | withdrawnHostCancel
  | withdrawnPreemptedTwice
  | superseded
  | evicted
  | droppedNoZones
  | droppedTableFull
  | started (channel : Nat)
  | done
  | failedRefused
  | failedStartTimeout
  | failedOverrun
  | preempted
  deriving DecidableEq, Repr

/-- Cause of a lost control link frame (R180). -/
inductive LossCause where
  | badLength
  | framing
  | gap
  | badCheck
  | queueFull
  deriving DecidableEq, Repr

/-- A report (kinds table of 11.5). `ms` is elapsed time in milliseconds; `time` station time in milliseconds. -/
inductive Report where
  | serviceRetired (code : Nat) (reason : RetireReason) (state : SvcState) (seq : Seq) (time : Nat)
  | noticeEnded (id : Nat) (reason : NoticeEnd) (time : Nat)
  | dispatchUnmatched (platform line stampMs time : Nat)
  | referenceState (old new : RefState) (mode : RefMode) (trim : Int)
  | timeStepped (delta : Int) (time : Nat)
  | lineAlarm (line : Nat) (kind : AlarmKind) (ms lastHigh lastLow suppressed : Nat)
  | batchExpired (ms : Nat) (seq : Seq)
  | commitDone (generation : Count16) (wallSeq : Seq) (latched failed withdrawn : Strings) (null : Bool) (ms : Nat)
  | stringState (string : Nat) (state : Lit) (cause : StringCause) (generation : Count16)
  | moduleState (string moduleNo : Nat) (health : Health) (missed : Nat) (flags : ModuleFlags) (ms : Nat)
  | linkTestResult (string : Nat) (result : TestResult) (matched : Nat)
  | cueState (handle : Nat) (event : CueEvent) (origin : Origin) (kind : CueKind) (subject ms : Nat)
  | auState (available : Bool) (count ms : Nat)
  | dialState (line : Nat) (old new : DialState) (dial c d ms : Nat)
  | linkError (cause : LossCause) (kind tag count ms : Nat)
  deriving DecidableEq, Repr

/-- A report in the report queue, with its number and the dropped count at its placing (R184). -/
structure PlacedReport where
  number : Count16
  dropped : Count16
  report : Report
  deriving DecidableEq, Repr

/-- Reply status (R183). -/
inductive Status where
  | ok
  | unknownKind
  | malformed
  | outOfRange
  | notFound
  | wrongState
  | conflict
  | tableFull
  | poolFull
  | inUse
  | past
  deriving DecidableEq, Repr

/-- The kind-specific body of a reply. -/
inductive ReplyBody where
  | empty
  /-- SERVICE_PUT (R40). -/
  | servicePut (rev : Seq) (inserted : Bool)
  /-- SERVICE_AMEND (R43), NOTICE_PUT (R73): the record's `rev`; TEXT_PUT replacing (R55): the new table_seq. -/
  | rev (seq : Seq)
  /-- IN_USE (R56). -/
  | useCount (n : Nat)
  /-- CUE_PUT (R154). -/
  | handle (h : Nat)
  /-- QUERY (R185), encoded. -/
  | query (bytes : List Byte)
  deriving DecidableEq, Repr

/-- A reply (R183): the kind is the reply's own, with the reply mark. -/
structure Reply where
  kind : Nat
  tag : Nat
  status : Status
  adjusted : Bool
  body : ReplyBody
  deriving DecidableEq, Repr

/-! ## Control Link (chapter 11) -/

/-- A request in the request queue (R181). -/
structure QueuedRequest where
  kind : Nat
  tag : Nat
  request : Request
  deriving DecidableEq, Repr

/-- The frame the transmitter is sending (R184). -/
inductive TxFrame where
  | reply (r : Reply)
  | report (r : PlacedReport)
  deriving DecidableEq, Repr

/-- The counts of R180, one for each cause. -/
structure LossCounts where
  badLength : Nat
  framing : Nat
  gap : Nat
  badCheck : Nat
  queueFull : Nat
  deriving DecidableEq, Repr

/-- The Control Link (chapter 11). -/
structure Link where
  rate : Nat
  /-- The rate of a taken LINK_SET, until its reply has been sent (R178). -/
  newRate : Option Nat
  rx : Receiver
  /-- Elapsed time of the last character of the frame being received, for the gap rule (R180). -/
  rxAt : Option Nat
  queue : List QueuedRequest
  partReady : Bool
  /-- The HOST_READY pin is asserted. -/
  hostReady : Bool
  slot : Option Reply
  tx : Option TxFrame
  reports : List PlacedReport
  reportSeq : Count16
  dropped : Count16
  losses : LossCounts
  deriving DecidableEq, Repr

/-! ## The whole -/

/-- MODEL'S OWN: work that one cause gives another block and that is done within the same step (R65, R102, R142, R158). -/
inductive Task where
  /-- End SETTLING where it may end (R102). -/
  | stage
  /-- Queue the cues the wall has caught up with (R142). -/
  | release
  /-- Run the release arbiter (R158). -/
  | arbiter
  /-- Tell the Service Table that an automatic PLATFORM_CHANGE cue ended other than by DONE (R65). -/
  | cueEnded (code handle : Nat)
  deriving DecidableEq, Repr

/-- The blocks that carry the departure picture to the wall and to the announcement unit: ST, TP, NL, LS, CP, CC, SL, CS, AL.
They read the time but never change it. -/
structure World where
  services : List Service
  tableSeq : Seq
  texts : List StoredText
  freeCells : Nat
  notices : List Notice
  policy : Lifecycle
  views : Vector View 16
  dueHorizon : Nat
  commit : Commit
  walls : Vector Wall 16
  latches : Vector LatchLine 16
  channels : Vector Channel 16
  cues : List Cue
  nextHandle : Nat
  cuePolicy : CuePolicy
  zoneMap : List Zones
  concourse : Zones
  au : AnnLink
  /-- MODEL'S OWN: reports placed by the present command, not yet numbered; empty between commands. -/
  out : List Report
  /-- MODEL'S OWN: work still to be done within the present command; empty between commands. -/
  agenda : List Task
  deriving DecidableEq, Repr

/-- The state of the engine. -/
structure State where
  time : TimeBase
  lines : Vector Monitor 13
  refWindows : RefWindows
  world : World
  dials : Vector DialLine 4
  link : Link
  /-- MODEL'S OWN: the commands that are waiting, first in, first out. -/
  pending : List Instr
  deriving DecidableEq, Repr

/-- Why a command stops the machine. No rule of the manual stops the engine: every command of the table has an effect, if only
that of a refused request, so this type has no constructor. -/
inductive Fault where
  deriving DecidableEq, Repr

/-- Why a command has no meaning. -/
inductive Refusal where
  /-- Raised by `exec` for a row that has no meaning yet; no row is left so. It stops the model and is therefore safe. -/
  | notModelled (mnemonic : String)
  deriving DecidableEq, Repr

/-! ## Power-on values -/

/-- 1.5 "Values after reset"; the increment of second 0 is R1 with F and S at 0. -/
def TimeBase.reset : TimeBase where
  elapsed := 0
  validity := .unsetTime
  base := 0
  increment := 1000000
  trim := 0
  slew := 0
  mode := .none
  refState := .free
  lastPulse := none
  pendingStep := none
  trimLimit := false
  dayStart := 180
  rollHeld := false
  stepMark := none
  lastError := none
  watch := none
  due := []

/-- R30, R34; an inactive pin starts the REARM wait at elapsed time 0 (R21). -/
def Monitor.reset (pin : Bool) : Monitor where
  polarity := .activeHigh
  minHigh := 50
  maxHigh := 10000
  minLow := 50
  role := .none
  state := .rearm
  rise := none
  riseTime := none
  gap := none
  lastEnd := none
  quietFrom := if pin then none else some 0
  lastHigh := 0
  lastLow := 0
  highShort := false
  highLong := false
  stuck := false
  glitches := 0
  lastGlitch := none
  pin := pin

/-- R31. -/
def RefWindows.reset : RefWindows where
  secLo := 20
  secHi := 500
  minLo := 100
  minHi := 2000

/-- R59. -/
def Lifecycle.reset : Lifecycle where
  boardLead := 10
  closeLead := 60
  departedHold := 120
  cancelHold := 10
  abandon := 120
  changeDisplay := 10

/-- R78. -/
def Window.reset : Window where
  enabled := false
  firstRow := 0
  rowCount := 1
  source := .clock
  period := 0
  pageIndex := 0
  pageTimer := none

/-- R77: one row in total after power-on (R120). -/
def View.reset : View where
  windows := Vector.replicate 4 Window.reset
  targets := [.empty]

/-- R117. -/
def CommitSettings.reset : CommitSettings where
  settle := 200
  deadline := 1500
  stagger := 40
  batchLimit := 10
  refresh := 4
  reports := false

/-- 6.9 "Values after reset"; the sweep timer runs from elapsed time 0 (R115). -/
def Commit.reset : Commit where
  state := .quiet
  commitSeq := 0
  wallSeq := 0
  generation := 0
  minutePending := false
  settleTimer := none
  deadlineTimer := none
  staggerTimer := none
  batchOpen := false
  batchTimer := none
  sweepTimer := some 4000000
  sweepPos := none
  settings := CommitSettings.reset

/-- R99. -/
def Wall.reset : Wall where
  shown := [.empty]
  lit := .dark
  restage := true
  part := .none
  staged := []
  cause := none

/-- R99, R100: every latch line is given one blank pulse. -/
def LatchLine.reset : LatchLine where
  pulses := [{ kind := .blank, ofCommit := false }]
  ends := some 10000

/-- R120. -/
def StringSettings.reset : StringSettings where
  enabled := false
  divI := 260
  divF := 3
  modules := 1
  rows := 1
  group := .a
  flow := .none
  pause := 0xF8
  resume := 0xF9
  timeout := 20
  retries := 1

/-- No flag of R132 is set. -/
def noFlags : ModuleFlags where
  contentLost := false
  lampFault := false
  overheat := false
  mismatch := false

/-- R131, R132. -/
def ModuleRec.reset : ModuleRec where
  health := .ok
  missed := 0
  flags := noFlags
  reject := false

/-- 7.8 "Values after reset"; the BSY pin is the module's. -/
def Channel.reset (busy : Bool) : Channel where
  settings := StringSettings.reset
  state := .off
  queue := []
  exchange := none
  flowStopped := false
  busy := busy
  holdTimer := none
  faultTimer := none
  pollTimer := none
  pollPtr := 1
  test := none
  timedOut := 0
  voids := 0
  rejects := 0
  modules := Vector.replicate 8 ModuleRec.reset
  lastChar := none

/-- R145. -/
def CuePolicy.reset : CuePolicy where
  platformChange := { enable := true, priority := 1 }
  delay := { enable := true, priority := 2 }
  delayThreshold := 5
  delayStep := 5
  delayPeriod := 10
  delayRepeats := 0
  boarding := { enable := true, priority := 2 }
  approach := { enable := true, priority := 1 }
  approachLead := 3
  approachDelay := 0
  cancellation := { enable := true, priority := 1 }
  notice := { enable := true, priority := 3 }

/-- R157. -/
def PlayChannel.reset : PlayChannel where
  phase := .free
  play := none
  timer := none

/-- 9.6 "Values after reset" and R169. -/
def AnnLink.reset : AnnLink where
  channels := Vector.replicate 4 PlayChannel.reset
  available := true
  timeouts := 0
  statusTimer := none
  unitStatus := none
  startTimeout := 2000
  playLimit := 120
  stopWait := 2000
  received := 0
  discarded := 0
  stray := 0
  rx := .hunt
  rxAt := none
  made := []

/-- R171. -/
def DialLine.reset : DialLine where
  enabled := false
  width := 500
  dial := 0
  next := .plus
  distance := 0
  state := .stopped
  drive := .quiet
  timer := none
  pending := none

/-- 11.4 "Values after reset"; the HOST_READY pin is the host's. -/
def Link.reset (hostReady : Bool) : Link where
  rate := 115200
  newRate := none
  rx := .hunt
  rxAt := none
  queue := []
  partReady := true
  hostReady := hostReady
  slot := none
  tx := none
  reports := []
  reportSeq := 0
  dropped := 0
  losses := { badLength := 0, framing := 0, gap := 0, badCheck := 0, queueFull := 0 }

/-- The departure picture's blocks after power-on, their BSY pins released. -/
def World.reset : World where
  services := []
  tableSeq := 0
  texts := []
  freeCells := Config.poolCells
  notices := []
  policy := Lifecycle.reset
  views := Vector.replicate 16 View.reset
  dueHorizon := 15
  commit := Commit.reset
  walls := Vector.replicate 16 Wall.reset
  latches := Vector.replicate 16 LatchLine.reset
  channels := Vector.replicate 16 (Channel.reset false)
  cues := []
  nextHandle := 1
  cuePolicy := CuePolicy.reset
  zoneMap := List.replicate 48 1
  concourse := 1
  au := AnnLink.reset
  out := []
  agenda := []

/-- The engine right after the power-on reset. The levels of the input pins are the outside world's: EL and REF low, BSY
released, HOST_READY asserted (DESIGN CHOICE, notes/assumptions/7.md). -/
def State.reset : State where
  time := TimeBase.reset
  lines := Vector.replicate 13 (Monitor.reset false)
  refWindows := RefWindows.reset
  world := World.reset
  dials := Vector.replicate 4 DialLine.reset
  link := Link.reset true
  pending := []

end Sys2Proof.Machine
end

