-- ==== Sys2Proof/Machine/Flags.lean ====
section
/-! DEFINITION. Machine/Flags.lean: comparisons, masks and the numberings of named values: the serial order of sequence
numbers (00_scope), membership in zone, platform and string sets, saturating counts, and the codes that R187 gives a
value named from a set. -/

namespace Sys2Proof.Machine

/-- "A is later than b when (a - b) mod 2^32, read as a signed 32-bit number, is positive" (00_scope) (DEDUCED, notes/assumptions/28.md). -/
def later (a b : Seq) : Bool := decide (0 < (a - b).toInt)

/-- "Not earlier than": later than or equal to (00_scope). -/
def notEarlier (a b : Seq) : Bool := a == b || later a b

/-- A count that stops at 65,535 (R32, R128, R161, R180). -/
def satSucc (n : Nat) : Nat := min Config.countTop (n + 1)

/-- Platform p, 1..48, is in the mask. -/
def inMask (mask : Platforms) (p : Nat) : Bool := decide (1 ≤ p) && mask.getLsbD (p - 1)

/-- The two zone sets share a zone. -/
def overlap (a b : Zones) : Bool := (a &&& b) != 0#8

/-- The set of one string. -/
def stringBit (n : StringNo) : Strings := 1#16 <<< n.val

/-- The sixteen strings in ascending order. -/
def allStrings : List StringNo := [0, 1, 2, 3, 4, 5, 6, 7, 8, 9, 10, 11, 12, 13, 14, 15]

/-- The thirteen monitored inputs. -/
def allLines : List LineNo := [0, 1, 2, 3, 4, 5, 6, 7, 8, 9, 10, 11, 12]

/-- Four slots, channels or slave clock lines in ascending order. -/
def allFour : List (Fin 4) := [0, 1, 2, 3]

/-- The REF input among the monitored inputs. -/
def refLine : LineNo := 12

/-- `new` where `test` holds, `old` elsewhere. -/
def orNone {α : Type} (test : Bool) (x : α) : Option α := if test then some x else none

/-! ## Serial numbers of named values (R187: numbered from 0 in the order their rule lists them) -/

def Validity.code : Validity → Nat
  | .unsetTime => 0
  | .setTime => 1

def RefMode.code : RefMode → Nat
  | .none => 0
  | .second => 1
  | .minute => 2

def RefMode.ofCode : Nat → Option RefMode
  | 0 => some .none
  | 1 => some .second
  | 2 => some .minute
  | _ => Option.none

def RefState.code : RefState → Nat
  | .free => 0
  | .acquiring => 1
  | .locked => 2
  | .holdover => 3

def Polarity.code : Polarity → Nat
  | .activeHigh => 0
  | .activeLow => 1

def Polarity.ofCode : Nat → Option Polarity
  | 0 => some .activeHigh
  | 1 => some .activeLow
  | _ => none

/-- A role's number with its platform, which "follows it in one byte" where it has one. The numbers are NONE 0, APPROACH 1 and
DISPATCH 2 (DESIGN CHOICE, notes/assumptions/45.md). -/
def Role.ofCode (role platform : Nat) : Option Role :=
  match role with
  | 0 => some .none
  | 1 => if 1 ≤ platform ∧ platform ≤ 48 then some (.approach platform) else Option.none
  | 2 => if 1 ≤ platform ∧ platform ≤ 48 then some (.dispatch platform) else Option.none
  | _ => Option.none

def MonState.code : MonState → Nat
  | .rearm => 0
  | .idle => 1
  | .pending => 2
  | .active => 3
  | .suspended => 4

def Side.code : Side → Nat
  | .none => 0
  | .a => 1
  | .b => 2

def Side.ofCode : Nat → Option Side
  | 0 => some .none
  | 1 => some .a
  | 2 => some .b
  | _ => Option.none

def SvcState.code : SvcState → Nat
  | .planned => 0
  | .boarding => 1
  | .closing => 2
  | .departed => 3
  | .cancelled => 4

/-- DEPARTED and CANCELLED are the terminal states (3.1). -/
def SvcState.terminal : SvcState → Bool
  | .departed => true
  | .cancelled => true
  | _ => false

def Delay.code : Delay → Nat
  | .minutes n => n
  | .indefinite => 65535

/-- A delay in minutes, "with INDEFINITE counted as 0" (R35). -/
def Delay.count : Delay → Nat
  | .minutes n => n
  | .indefinite => 0

def CommitState.code : CommitState → Nat
  | .quiet => 0
  | .settling => 1
  | .staging => 2
  | .latchA => 3
  | .latchB => 4

def Part.code : Part → Nat
  | .none => 0
  | .staging => 1
  | .staged => 2
  | .failed => 3
  | .withdrawn => 4

def Lit.code : Lit → Nat
  | .lit => 0
  | .dark => 1

/-- Failure causes in the order of chapter 6's state table; "none" is the absent field of R187. -/
def FailCause.code : FailCause → Nat
  | .faulted => 0
  | .lostModule => 1
  | .rejected => 2
  | .givenUp => 3
  | .deadline => 4

/-- Causes of STRING_STATE in the order the rules first name them: R112, then R106 to R109, R114, R134, R135 (DEDUCED, notes/assumptions/15.md). -/
def StringCause.code : StringCause → Nat
  | .latched => 0
  | .failed c => c.code + 1
  | .stringSet => 6
  | .stalled => 7
  | .recovered => 8

def Group.code : Group → Nat
  | .a => 0
  | .b => 1

def Group.ofCode : Nat → Option Group
  | 0 => some .a
  | 1 => some .b
  | _ => none

def FlowMode.code : FlowMode → Nat
  | .none => 0
  | .busyLine => 1
  | .pauseCodes => 2

def FlowMode.ofCode : Nat → Option FlowMode
  | 0 => some .none
  | 1 => some .busyLine
  | 2 => some .pauseCodes
  | _ => Option.none

def ChanState.code : ChanState → Nat
  | .off => 0
  | .ready => 1
  | .sending => 2
  | .waiting => 3
  | .held => 4
  | .faulted => 5

def Health.code : Health → Nat
  | .ok => 0
  | .suspect => 1
  | .lost => 2

def Origin.code : Origin → Nat
  | .auto => 0
  | .host => 1

def CueKind.code : CueKind → Nat
  | .platformChange => 0
  | .delay => 1
  | .approach => 2
  | .boarding => 3
  | .cancellation => 4
  | .notice => 5
  | .custom => 6

/-- The kind of a code; POLICY_SET's codes too are those of R138 and START (DESIGN CHOICE, notes/assumptions/61.md). -/
def CueKind.ofCode : Nat → Option CueKind
  | 0 => some .platformChange
  | 1 => some .delay
  | 2 => some .approach
  | 3 => some .boarding
  | 4 => some .cancellation
  | 5 => some .notice
  | 6 => some .custom
  | _ => none

/-- The subject is a service code for the first five kinds (R138). -/
def CueKind.ofService : CueKind → Bool
  | .notice => false
  | .custom => false
  | _ => true

def CueMode.code : CueMode → Nat
  | .oneShot => 0
  | .triggered => 1
  | .periodic => 2
  | .triggeredPeriodic => 3
  | .anchored => 4

def CueMode.ofCode : Nat → Option CueMode
  | 0 => some .oneShot
  | 1 => some .triggered
  | 2 => some .periodic
  | 3 => some .triggeredPeriodic
  | 4 => some .anchored
  | _ => none

def CueMode.isTriggered : CueMode → Bool
  | .triggered => true
  | .triggeredPeriodic => true
  | _ => false

def CueMode.isPeriodic : CueMode → Bool
  | .periodic => true
  | .triggeredPeriodic => true
  | _ => false

def CueState.code : CueState → Nat
  | .armed => 0
  | .delaying => 1
  | .pendingWall => 2
  | .queued => 3
  | .starting => 4
  | .playing => 5

/-- "Pending in ARMED, DELAYING, PENDING_WALL and QUEUED" (R138). -/
def CueState.isPending : CueState → Bool
  | .starting => false
  | .playing => false
  | _ => true

def Phase.code : Phase → Nat
  | .free => 0
  | .starting => 1
  | .playing => 2
  | .stopping => 3

def Impulse.code : Impulse → Nat
  | .plus => 0
  | .minus => 1

def Impulse.ofCode : Nat → Option Impulse
  | 0 => some .plus
  | 1 => some .minus
  | _ => none

/-- The polarity after a pulse (R175). -/
def Impulse.flip : Impulse → Impulse
  | .plus => .minus
  | .minus => .plus

def DialState.code : DialState → Nat
  | .stopped => 0
  | .idle => 1
  | .pulsing => 2
  | .catchingUp => 3
  | .holding => 4

def Drive.code : Drive → Nat
  | .quiet => 0
  | .driving => 1
  | .resting => 2

def RetireReason.code : RetireReason → Nat
  | .dropped => 0
  | .earlyForSpace => 1
  | .departed => 2
  | .cancelled => 3
  | .abandoned => 4
  | .dayRoll => 5

def NoticeEnd.code : NoticeEnd → Nat
  | .expired => 0
  | .subjectRetired => 1

/-- Alarm kinds in the order of R32, a STUCK alarm marked ENTRY or EXIT. -/
def AlarmKind.code : AlarmKind → Nat
  | .stuckEntry => 0
  | .stuckExit => 1
  | .highShort => 2
  | .highLong => 3

def TestResult.code : TestResult → Nat
  | .same => 0
  | .mismatch => 1
  | .abandoned => 2

def LossCause.code : LossCause → Nat
  | .badLength => 0
  | .framing => 1
  | .gap => 2
  | .badCheck => 3
  | .queueFull => 4

def Status.code : Status → Nat
  | .ok => 0
  | .unknownKind => 1
  | .malformed => 2
  | .outOfRange => 3
  | .notFound => 4
  | .wrongState => 5
  | .conflict => 6
  | .tableFull => 7
  | .poolFull => 8
  | .inUse => 9
  | .past => 10

/-- MISMATCH as reported: the STATUS flag or the reject mark (R132). -/
def ModuleRec.reported (m : ModuleRec) : ModuleFlags :=
  { m.flags with mismatch := m.flags.mismatch || m.reject }

end Sys2Proof.Machine
end

