-- ==== Sys2Proof/Machine/Ops.lean ====
section
/-! DEFINITION. Machine/Ops.lean: the operations every block shares: the present time as a reader gets it (R6), looking up and
changing records of the tables, placing reports, and reading and writing the record of one string. -/

namespace Sys2Proof.Machine

/-! ## Reading the time -/

/-- The present time as the blocks read it (R6): elapsed time, station time with its validity, the day-start minute and roll
held; and, of the Line Monitor, the platforms for which a line has the role APPROACH (R151). -/
structure Env where
  now : Nat
  valid : Bool
  station : Nat
  dayStart : Nat
  rollHeld : Bool
  approach : List Nat
  deriving DecidableEq, Repr

/-- Elapsed time in whole milliseconds. -/
def Env.nowMs (e : Env) : Nat := e.now / 1000

/-- Station time in milliseconds of the clock day. -/
def Env.timeMs (e : Env) : Nat := e.station / 1000

/-- Station time in milliseconds, "or 0 while UNSET" (R20, R50, R68); so too in a NOTICE_ENDED, of which R74 and R75 do not say it
(DESIGN CHOICE, notes/assumptions/40.md). -/
def Env.reportMs (e : Env) : Nat := if e.valid then e.timeMs else 0

/-- The station minute m (R6). -/
def Env.minute (e : Env) : Nat := e.station / Config.minuteUs

/-- The service milliseconds nms (R6). -/
def Env.nms (e : Env) : Int :=
  let x := ((e.timeMs : Int) - (e.dayStart * 60000 : Nat)) % (Config.dayMs : Int)
  if e.rollHeld then x - Config.dayMs else x

/-- The service minute n: service milliseconds in whole minutes, rounded toward minus infinity (R6). -/
def Env.serviceMinute (e : Env) : Int := e.nms / 60000

/-- The time to departure r in milliseconds (chapter 4): `eff_sm` × 60,000 - nms. -/
def Env.timeTo (e : Env) (effSm : Int) : Int := effSm * 60000 - e.nms

/-- The age of a mark (R67): the present station time less the mark, reduced into half a day each way. -/
def Env.age (e : Env) (mark : Nat) : Int :=
  ((e.timeMs : Int) - mark + 43200000) % (Config.dayMs : Int) - 43200000

/-- A duration in milliseconds from now, as the expiry of a timer (R2). -/
def Env.inMs (e : Env) (ms : Nat) : Nat := e.now + ms * 1000

/-- A duration in seconds from now, as the expiry of a timer (R2). -/
def Env.inSec (e : Env) (s : Nat) : Nat := e.now + s * Config.secondUs

/-! ## Tables -/

/-- Change the entries that a test picks. -/
def updateWhere {α : Type} (test : α → Bool) (f : α → α) (l : List α) : List α :=
  l.map fun x => if test x then f x else x

/-- The service record with a code. -/
def World.service (w : World) (code : Nat) : Option Service := w.services.find? (·.code == code)

/-- The stored text with an index. -/
def World.text (w : World) (index : Nat) : Option StoredText := w.texts.find? (·.index == index)

/-- The notice with an id. -/
def World.notice (w : World) (id : Nat) : Option Notice := w.notices.find? (·.id == id)

/-- The characters of a text; none where it is not stored. -/
def World.chars (w : World) (index : Nat) : Chars := ((w.text index).map (·.chars)).getD []

/-- R35: the order of the triple (`eff_sm`, `sched_sm`, `code`). -/
def Service.before (a b : Service) : Bool :=
  decide (a.effSm < b.effSm) ||
    (a.effSm == b.effSm && (decide (a.schedSm < b.schedSm) || (a.schedSm == b.schedSm && decide (a.code < b.code))))

/-- Put a record at the place its triple gives (R35). -/
def insertService (r : Service) : List Service → List Service
  | [] => [r]
  | x :: rest => if r.before x then r :: x :: rest else x :: insertService r rest

/-- The table without the record of a code. -/
def dropService (code : Nat) (l : List Service) : List Service := l.filter (·.code != code)

/-- A record with its new contents at its place in table order (R35). -/
def World.storeService (r : Service) (w : World) : World :=
  { w with services := insertService r (dropService r.code w.services) }

/-- Put a text at its place, in ascending order of index, in place of one with the same index. -/
def insertText (t : StoredText) : List StoredText → List StoredText
  | [] => [t]
  | x :: rest =>
    if t.index < x.index then t :: x :: rest
    else if t.index == x.index then t :: rest else x :: insertText t rest

/-- Put a notice at its place, in ascending order of id, in place of one with the same id (R71). -/
def insertNotice (n : Notice) : List Notice → List Notice
  | [] => [n]
  | x :: rest =>
    if n.id < x.id then n :: x :: rest
    else if n.id == x.id then n :: rest else x :: insertNotice n rest

/-- Put a cue in its slot (R138). -/
def insertCue (c : Cue) : List Cue → List Cue
  | [] => [c]
  | x :: rest =>
    if c.slot < x.slot then c :: x :: rest
    else if c.slot == x.slot then c :: rest else x :: insertCue c rest

/-! ## Use counts (R57) -/

/-- The text references of a record, each counted (R57). -/
def Service.refs (r : Service) : List Nat := r.dest :: (r.vias ++ r.remark.toList)

/-- One reference more to a text. -/
def addUse (index : Nat) (l : List StoredText) : List StoredText :=
  updateWhere (·.index == index) (fun t => { t with uses := t.uses + 1 }) l

/-- One reference less to a text. -/
def dropUse (index : Nat) (l : List StoredText) : List StoredText :=
  updateWhere (·.index == index) (fun t => { t with uses := t.uses - 1 }) l

/-- The references of a new record or notice are added to the use counts. -/
def World.claim (refs : List Nat) (w : World) : World :=
  { w with texts := refs.foldl (fun l i => addUse i l) w.texts }

/-- The references of a record or notice that goes are taken from the use counts. -/
def World.release (refs : List Nat) (w : World) : World :=
  { w with texts := refs.foldl (fun l i => dropUse i l) w.texts }

/-! ## Reports and work within the step -/

/-- Place a report (R184); it takes its number when the command ends, in the order of placing. -/
def World.report (r : Report) (w : World) : World := { w with out := w.out ++ [r] }

/-- Give a block work to be done within the same step. -/
def World.push (t : Task) (w : World) : World := { w with agenda := w.agenda ++ [t] }

/-! ## The records of one string -/

/-- The row total of a string: modules times rows per module (R77, R120). -/
def StringSettings.rowTotal (s : StringSettings) : Nat := s.modules * s.rows

def World.channel (w : World) (n : StringNo) : Channel := w.channels[n]
def World.wall (w : World) (n : StringNo) : Wall := w.walls[n]
def World.view (w : World) (n : StringNo) : View := w.views[n]
def World.latch (w : World) (n : StringNo) : LatchLine := w.latches[n]

def World.setChannel (n : StringNo) (c : Channel) (w : World) : World := { w with channels := w.channels.set n c }
def World.setWall (n : StringNo) (x : Wall) (w : World) : World := { w with walls := w.walls.set n x }
def World.setView (n : StringNo) (v : View) (w : World) : World := { w with views := w.views.set n v }
def World.setLatch (n : StringNo) (l : LatchLine) (w : World) : World := { w with latches := w.latches.set n l }

/-- The row total of string n. -/
def World.rowTotal (w : World) (n : StringNo) : Nat := (w.channel n).settings.rowTotal

/-- String number 1..16 as the host gives it. -/
def stringOf (number : Nat) : Option StringNo :=
  if h : 1 ≤ number ∧ number ≤ 16 then some ⟨number - 1, by omega⟩ else none

/-- Slave clock line number 1..4 as the host gives it (R172). -/
def dialOf (number : Nat) : Option (Fin 4) :=
  if h : 1 ≤ number ∧ number ≤ 4 then some ⟨number - 1, by omega⟩ else none

/-! ## What a request comes to -/

/-- The verdict of a request's owner (R182, R183): refused, or taken with what it leaves. -/
inductive Verdict (α : Type) where
  | refuse (status : Status) (body : ReplyBody)
  | take (adjusted : Bool) (body : ReplyBody) (left : α)
  deriving DecidableEq, Repr

/-- A verdict on the departure picture as one on a larger state. -/
def Verdict.map {α β : Type} (f : α → β) : Verdict α → Verdict β
  | .refuse s b => .refuse s b
  | .take a b x => .take a b (f x)

/-- Refused without a body. -/
def refuse {α : Type} (s : Status) : Verdict α := .refuse s .empty

/-- Taken without clamp or body. -/
def taken {α : Type} (x : α) : Verdict α := .take false .empty x

/-- A value clamped into a range (R183). -/
def clamp (lo hi n : Nat) : Nat := max lo (min hi n)

/-- A value taken down to a whole step and then clamped (R117, R169, R172). -/
def stepClamp (step lo hi n : Nat) : Nat := clamp lo hi (n / step * step)

end Sys2Proof.Machine
end

