-- ==== Sys2Proof/WellFormed.lean ====
section
/-! DEFINITION. WellFormed.lean: which commands a sender can send: every operand fits the field its frame gives it (11.5,
R187), an operand that a form does not carry is 0, and a list whose length the layout fixes has that length. A value
that fits its field and lies outside the owner's range is well formed: the owner refuses or clamps it. -/

namespace Sys2Proof

def fits8 (n : Nat) : Bool := decide (n < 256)
def fits16 (n : Nat) : Bool := decide (n < 65536)
def fits32 (n : Nat) : Bool := decide (n < 4294967296)

/-- An optional field fits where it is present. -/
def fitsOpt (fits : Nat → Bool) : Option Nat → Bool
  | none => true
  | some n => fits n

/-- LINE_SET: the number 13 names REF (R187), and a role NONE carries no platform. -/
def LineSetReq.wf : LineSetReq → Bool
  | .event line pol minHigh maxHigh minLow role platform =>
    fits8 line && line != 13 && fits8 pol && fits16 minHigh && fits16 maxHigh && fits16 minLow && fits8 role &&
      fits8 platform && (role != 0 || platform == 0)
  | .ref pol minLow maxHigh secLo secHi minLo minHi role =>
    fits8 pol && fits16 minLow && fits16 maxHigh && fits16 secLo && fits16 secHi && fits16 minLo && fits16 minHi &&
      fits8 role

def ServicePutReq.wf (r : ServicePutReq) : Bool :=
  fits16 r.code && fits16 r.schedHm && fits16 r.delay && fits8 r.platform && fits8 r.side && fits8 r.dest &&
    fits8 r.remark && fits8 r.operator && fits8 r.boardLead && fits8 r.vias.length && r.vias.all fits8

def AmendReq.wf (r : AmendReq) : Bool :=
  fits16 r.code && fitsOpt fits16 r.delay && fitsOpt fits8 r.remark && fitsOpt fits8 r.target &&
    match r.platform with
    | none => true
    | some (p, s) => fits8 p && fits8 s

def LifecycleReq.wf (r : LifecycleReq) : Bool :=
  fits8 r.boardLead && fits16 r.closeLead && fits16 r.departedHold && fits8 r.cancelHold && fits8 r.abandon &&
    fits8 r.changeDisplay

def Scope.wf : Scope → Bool
  | .wall => true
  | .platforms _ => true
  | .service code => fits16 code

def NoticePutReq.wf (r : NoticePutReq) : Bool :=
  fits8 r.id && fits8 r.text && r.scope.wf && fits8 r.priority && fitsOpt fits32 r.startMs && fitsOpt fits32 r.endMs &&
    fits8 r.period

/-- The sources are numbered 0..4 (R78); any other number is an unknown source. -/
def SourceReq.wf : SourceReq → Bool
  | .departures _ _ _ offset => fits8 offset
  | .platform p => fits8 p
  | .clock => true
  | .ticker _ => true
  | .fixed t => fits8 t
  | .unknown code => fits8 code && decide (5 ≤ code)

def WindowReq.wf (r : WindowReq) : Bool :=
  fits8 r.firstRow && fits8 r.rowCount && r.source.wf && fits8 r.period

def CommitSetReq.wf (r : CommitSetReq) : Bool :=
  fits16 r.settle && fits16 r.deadline && fits8 r.stagger && fits8 r.batchLimit && fits8 r.refresh

def StringSetReq.wf (r : StringSetReq) : Bool :=
  fits8 r.string && fits16 r.divI && fits8 r.divF && fits8 r.modules && fits8 r.rows && fits8 r.group && fits8 r.flow &&
    fits8 r.timeout && fits8 r.retries

/-- POLICY_SET: the settings a kind does not have are 0 (R145); CUSTOM and unknown kinds carry none. -/
def PolicyReq.wf (r : PolicyReq) : Bool :=
  fits8 r.kind && fits8 r.priority &&
    match r.kind with
    | 1 => fits8 r.a && fits8 r.b && fits8 r.c && fits8 r.d
    | 2 => fits8 r.a && fits16 r.b && r.c == 0 && r.d == 0
    | k => r.a == 0 && r.b == 0 && r.c == 0 && r.d == 0 && (decide (k < 6) || (r.priority == 0 && !r.enable))

/-- CUE_PUT: the fields a mode does not carry are 0 (R154). -/
def CuePutReq.wf (r : CuePutReq) : Bool :=
  fits8 r.kind && fits16 r.subject && fits8 r.mode && fits8 r.priority &&
    match r.mode with
    | 1 => fits8 r.line && fits16 r.delayS && r.periodS == 0 && r.repeats == 0 && r.leadMin == 0
    | 2 => r.line == 0 && r.delayS == 0 && fits16 r.periodS && fits8 r.repeats && r.leadMin == 0
    | 3 => fits8 r.line && fits16 r.delayS && fits16 r.periodS && fits8 r.repeats && r.leadMin == 0
    | 4 => r.line == 0 && r.delayS == 0 && r.periodS == 0 && r.repeats == 0 && fits8 r.leadMin
    | _ => r.line == 0 && r.delayS == 0 && r.periodS == 0 && r.repeats == 0 && r.leadMin == 0

/-- QUERY: subjects are numbered 0..17 in the order of R185; SERVICE (3), TEXT (5), VIEW (8), SHOWN (10) and CHANNEL (11)
have a parameter, VIEW and SHOWN a first row and a row count as well. -/
def queryWf (subject parameter first count : Nat) : Bool :=
  fits8 subject &&
    match subject with
    | 3 => fits16 parameter && first == 0 && count == 0
    | 5 => fits8 parameter && first == 0 && count == 0
    | 11 => fits8 parameter && first == 0 && count == 0
    | 8 => fits8 parameter && fits8 first && fits8 count
    | 10 => fits8 parameter && fits8 first && fits8 count
    | _ => parameter == 0 && first == 0 && count == 0

/-- A request whose every field fits its place in the body; MALFORMED and UNKNOWN_KIND are no bodies. -/
def Request.wf : Request → Bool
  | .timeSet h => fits32 h
  | .timeStep m => decide (-32768 ≤ m) && decide (m < 32768)
  | .clockSet mode d => fits8 mode && fits16 d
  | .lineSet r => r.wf
  | .lineClear lines => fits16 lines
  | .servicePut r => r.wf
  | .serviceAmend r => r.wf
  | .serviceDrop code => fits16 code
  | .textPut index chars => fits8 index && fits8 chars.length
  | .textDrop index => fits8 index
  | .lifecycleSet r => r.wf
  | .noticePut r => r.wf
  | .noticeDrop id => fits8 id
  | .viewSet string w0 w1 w2 w3 => fits8 string && w0.wf && w1.wf && w2.wf && w3.wf
  | .composeSet minutes => fits8 minutes
  | .batchOpen => true
  | .batchClose => true
  | .commitSet r => r.wf
  | .stringSet r => r.wf
  | .linkTest string => fits8 string
  | .policySet r => r.wf
  | .zoneMapSet platforms _ => platforms.length == 48
  | .cuePut r => r.wf
  | .cueCancel handle => fits16 handle
  | .auSet a b c => fits16 a && fits16 b && fits16 c
  | .dialLineSet line _ width => fits8 line && fits16 width
  | .dialSet line dial polarity => fits8 line && fits16 dial && fits8 polarity
  | .query subject parameter first count => queryWf subject parameter first count
  | .restart => true
  | .linkSet rate => fits32 rate
  | .malformed => false
  | .unknownKind => false

/-- A command whose operands a sender can send. -/
def Instr.wf : Instr → Bool
  | .powerOnReset => true
  | .nominalSecond => true
  | .secondEvent => true
  | .watchExpiry => true
  | .timeSet _ tag h => fits8 tag && (Request.timeSet h).wf
  | .timeStep _ tag m => fits8 tag && (Request.timeStep m).wf
  | .clockSet _ tag mode d => fits8 tag && (Request.clockSet mode d).wf
  | .lineSet _ tag r => fits8 tag && r.wf
  | .lineClear _ tag lines => fits8 tag && fits16 lines
  | .lineRisingEdge _ _ => true
  | .lineFallingEdge _ _ => true
  | .lineRearmed _ => true
  | .gapConfirmed _ => true
  | .qualificationTime _ => true
  | .maxHighPassed _ => true
  | .servicePut _ tag r => fits8 tag && r.wf
  | .serviceAmend _ tag r => fits8 tag && r.wf
  | .serviceDrop _ tag code => fits8 tag && fits16 code
  | .textPut _ tag index chars => fits8 tag && (Request.textPut index chars).wf
  | .textDrop _ tag index => fits8 tag && fits8 index
  | .lifecycleSet _ tag r => fits8 tag && r.wf
  | .noticePut _ tag r => fits8 tag && r.wf
  | .noticeDrop _ tag id => fits8 tag && fits8 id
  | .viewSet _ tag string w0 w1 w2 w3 => fits8 tag && (Request.viewSet string w0 w1 w2 w3).wf
  | .composeSet _ tag minutes => fits8 tag && fits8 minutes
  | .pageExpiry _ _ => true
  | .settleExpiry => true
  | .stagingDeadlineExpiry => true
  | .staggerExpiry => true
  | .pulseEnd _ => true
  | .batchOpen _ tag => fits8 tag
  | .batchClose _ tag => fits8 tag
  | .batchExpired => true
  | .commitSet _ tag r => fits8 tag && r.wf
  | .sweepExpiry => true
  | .stringSet _ tag r => fits8 tag && r.wf
  | .linkTest _ tag string => fits8 tag && fits8 string
  | .linkTestResult _ _ chars => decide (chars.length ≤ 16)
  | .pollTick _ => true
  | .frameBegin _ => true
  | .frameSent _ => true
  | .replyTimeout _ => true
  | .replyGap _ _ => true
  | .voidReply _ _ => true
  | .ackStage _ _ moduleNo moduleRow stringRow _ => fits8 moduleNo && fits8 moduleRow && fits8 stringRow
  | .status _ _ moduleNo _ => fits8 moduleNo
  | .pauseCode _ _ => true
  | .resumeCode _ _ => true
  | .busyReturn _ _ _ => true
  | .stalled _ => true
  | .recovered _ => true
  | .policySet _ tag r => fits8 tag && r.wf
  | .zoneMapSet _ tag platforms concourse => fits8 tag && (Request.zoneMapSet platforms concourse).wf
  | .cuePut _ tag r => fits8 tag && r.wf
  | .cueCancel _ tag handle => fits8 tag && fits16 handle
  | .cueDelayExpiry _ => true
  | .cuePeriodExpiry _ => true
  | .cueAging _ => true
  | .startSent _ _ => true
  | .playing _ handle => fits16 handle
  | .refused _ handle reason => fits16 handle && fits8 reason
  | .startTimeout _ => true
  | .done _ handle => fits16 handle
  | .playLimitExpiry _ => true
  | .stopped _ handle => fits16 handle
  | .stopWaitExpiry _ => true
  | .statusReply _ _ => true
  | .statusTimerExpiry => true
  | .auGap _ => true
  | .auFrameDiscarded _ => true
  | .auSet _ tag a b c => fits8 tag && (Request.auSet a b c).wf
  | .dialLineSet _ tag line enable width => fits8 tag && (Request.dialLineSet line enable width).wf
  | .dialSet _ tag line dial polarity => fits8 tag && (Request.dialSet line dial polarity).wf
  | .dialPulseEnd _ => true
  | .dialRestEnd _ => true
  | .requestFrame _ _ => true
  | .clGap _ => true
  | .replySent _ => true
  | .unknownKind _ tag kind => fits8 tag && fits8 kind && !((decide (1 ≤ kind) && decide (kind ≤ 0x0D)) || (decide (0x11 ≤ kind) && decide (kind ≤ 0x21)))
  | .hostReady _ _ => true
  | .query _ tag subject parameter first count => fits8 tag && queryWf subject parameter first count
  | .linkSet _ tag rate => fits8 tag && fits32 rate
  | .restart _ tag => fits8 tag

end Sys2Proof
end

