-- ==== Sys2Proof/Machine/Operands.lean ====
section
/-! DEFINITION. Machine/Operands.lean: the bodies of the host's requests as bytes (R187, and the SERVICE_PUT body of 11.5): how
the fields of each kind are written and read. Multi-byte fields are little-endian. A body that does not match its
kind's layout reads as MALFORMED (R182). -/

namespace Sys2Proof.Machine

/-! ## Writing fields (R187) -/

/-- A number in k bytes, least significant first. -/
def le : Nat → Nat → List Byte
  | 0, _ => []
  | k + 1, n => BitVec.ofNat 8 n :: le k (n / 256)

/-- A number in k bytes in two's complement. -/
def leInt (k : Nat) (i : Int) : List Byte := le k (i % ((256 ^ k : Nat) : Int)).toNat

/-- A flag: one byte, 0 clear and 1 set. -/
def flagByte (b : Bool) : List Byte := [if b then 1 else 0]

/-- A switch whose values are listed "enabled, disabled" (R117, R120, R171), numbered from 0 in that order. -/
def switchByte (b : Bool) : List Byte := [if b then 0 else 1]

/-- An optional field: 1 and the field when present, 0 when absent. -/
def optField {α : Type} (f : α → List Byte) : Option α → List Byte
  | none => [0]
  | some x => 1 :: f x

/-- A text field: one byte of length and the characters. -/
def textField (c : Chars) : List Byte := BitVec.ofNat 8 c.length :: c

/-- A list with a count of one byte. -/
def listField {α : Type} (f : α → List Byte) (l : List α) : List Byte :=
  BitVec.ofNat 8 l.length :: l.flatMap f

/-- A platform mask in 6 bytes, bit p - 1 for platform p. -/
def maskField (m : Platforms) : List Byte := le 6 m.toNat

/-! ## Reading fields -/

/-- What a field reader leaves: the field and the rest of the body. -/
abbrev Read (α : Type) := List Byte → Option (α × List Byte)

/-- A number of k bytes. -/
def readLe : Nat → Read Nat
  | 0, l => some (0, l)
  | _ + 1, [] => none
  | k + 1, b :: l => (readLe k l).map fun (n, rest) => (b.toNat + 256 * n, rest)

/-- A number of k bytes in two's complement. -/
def readInt (k : Nat) : Read Int := fun l =>
  (readLe k l).map fun (n, rest) => (if n < 256 ^ k / 2 then (n : Int) else (n : Int) - ((256 ^ k : Nat) : Int), rest)

/-- One raw byte. -/
def readByte : Read Byte
  | [] => none
  | b :: l => some (b, l)

/-- A flag: 0 or 1, nothing else. -/
def readFlag : Read Bool
  | [] => none
  | b :: l => if b = 0 then some (false, l) else if b = 1 then some (true, l) else none

/-- A switch: 0 enabled, 1 disabled, nothing else. -/
def readSwitch : Read Bool
  | [] => none
  | b :: l => if b = 0 then some (true, l) else if b = 1 then some (false, l) else none

/-- An optional field. -/
def readOpt {α : Type} (f : Read α) : Read (Option α)
  | [] => none
  | b :: l => if b = 0 then some (none, l) else if b = 1 then (f l).map fun (x, rest) => (some x, rest) else none

/-- A number of fields in turn. -/
def readMany {α : Type} (f : Read α) : Nat → Read (List α)
  | 0, l => some ([], l)
  | k + 1, l => do
    let (x, l) ← f l
    let (xs, l) ← readMany f k l
    some (x :: xs, l)

/-- A text field. -/
def readText : Read Chars := fun l => do
  let (n, l) ← readLe 1 l
  readMany readByte n l

/-- A platform mask. -/
def readMask : Read Platforms := fun l => (readLe 6 l).map fun (n, rest) => (BitVec.ofNat 48 n, rest)

/-- The body holds nothing more. -/
def atEnd {α : Type} (x : α) : List Byte → Option α
  | [] => some x
  | _ :: _ => none

/-! ## LINE_SET (R30, R31) -/

/-- A role in one byte, "a role's platform follows it in one byte": NONE has none (DEDUCED, notes/assumptions/15.md). -/
def roleField (role platform : Nat) : List Byte := le 1 role ++ (if role = 0 then [] else le 1 platform)

/-- A role of an unknown code has a platform byte as APPROACH and DISPATCH have, so without one the body is MALFORMED (DESIGN CHOICE,
notes/assumptions/45.md). -/
def readRole : Read (Nat × Nat) := fun l => do
  let (role, l) ← readLe 1 l
  if role = 0 then some ((0, 0), l) else do
    let (p, l) ← readLe 1 l
    some ((role, p), l)

def encodeLineSet : LineSetReq → List Byte
  | .event line pol minHigh maxHigh minLow role platform =>
    le 1 line ++ le 1 pol ++ le 2 minHigh ++ le 2 maxHigh ++ le 2 minLow ++ roleField role platform
  | .ref pol minLow maxHigh secLo secHi minLo minHi role =>
    le 1 13 ++ le 1 pol ++ le 2 minLow ++ le 2 maxHigh ++ le 2 secLo ++ le 2 secHi ++ le 2 minLo ++ le 2 minHi ++
      le 1 role

/-- The role of REF must be NONE (R31); a platform byte behind another role belongs to it (DEDUCED, notes/assumptions/15.md). -/
def readLineSet (l : List Byte) : Option LineSetReq := do
  let (line, l) ← readLe 1 l
  let (pol, l) ← readLe 1 l
  if line = 13 then do
    let (minLow, l) ← readLe 2 l
    let (maxHigh, l) ← readLe 2 l
    let (secLo, l) ← readLe 2 l
    let (secHi, l) ← readLe 2 l
    let (minLo, l) ← readLe 2 l
    let (minHi, l) ← readLe 2 l
    let (role, l) ← readLe 1 l
    atEnd (.ref pol minLow maxHigh secLo secHi minLo minHi role) (if role = 0 then l else l.drop 1)
  else do
    let (minHigh, l) ← readLe 2 l
    let (maxHigh, l) ← readLe 2 l
    let (minLow, l) ← readLe 2 l
    let ((role, platform), l) ← readRole l
    atEnd (.event line pol minHigh maxHigh minLow role platform) l

/-! ## The Service Table's requests -/

/-- 11.5 "SERVICE_PUT body". -/
def encodeServicePut (r : ServicePutReq) : List Byte :=
  le 2 r.code ++ le 2 r.schedHm ++ le 2 r.delay ++ le 1 r.platform ++ le 1 r.side ++ le 1 r.dest ++ le 1 r.remark ++
    le 1 r.operator ++ le 1 r.boardLead ++ listField (le 1) r.vias

def readServicePut (l : List Byte) : Option ServicePutReq := do
  let (code, l) ← readLe 2 l
  let (schedHm, l) ← readLe 2 l
  let (delay, l) ← readLe 2 l
  let (platform, l) ← readLe 1 l
  let (side, l) ← readLe 1 l
  let (dest, l) ← readLe 1 l
  let (remark, l) ← readLe 1 l
  let (operator, l) ← readLe 1 l
  let (boardLead, l) ← readLe 1 l
  let (n, l) ← readLe 1 l
  let (vias, l) ← readMany (readLe 1) n l
  atEnd { code, schedHm, delay, platform, side, dest, remark, operator, boardLead, vias } l

def pairField (p : Nat × Nat) : List Byte := le 1 p.1 ++ le 1 p.2

def readPair : Read (Nat × Nat) := fun l => do
  let (a, l) ← readLe 1 l
  let (b, l) ← readLe 1 l
  some ((a, b), l)

def encodeAmend (r : AmendReq) : List Byte :=
  le 2 r.code ++ optField (le 2) r.delay ++ optField pairField r.platform ++ optField (le 1) r.remark ++
    optField (le 1) r.target

def readAmend (l : List Byte) : Option AmendReq := do
  let (code, l) ← readLe 2 l
  let (delay, l) ← readOpt (readLe 2) l
  let (platform, l) ← readOpt readPair l
  let (remark, l) ← readOpt (readLe 1) l
  let (target, l) ← readOpt (readLe 1) l
  atEnd { code, delay, platform, remark, target } l

def encodeLifecycle (r : LifecycleReq) : List Byte :=
  le 1 r.boardLead ++ le 2 r.closeLead ++ le 2 r.departedHold ++ le 1 r.cancelHold ++ le 1 r.abandon ++
    le 1 r.changeDisplay

def readLifecycle (l : List Byte) : Option LifecycleReq := do
  let (boardLead, l) ← readLe 1 l
  let (closeLead, l) ← readLe 2 l
  let (departedHold, l) ← readLe 2 l
  let (cancelHold, l) ← readLe 1 l
  let (abandon, l) ← readLe 1 l
  let (changeDisplay, l) ← readLe 1 l
  atEnd { boardLead, closeLead, departedHold, cancelHold, abandon, changeDisplay } l

def scopeField : Scope → List Byte
  | .wall => le 1 0
  | .platforms mask => le 1 1 ++ maskField mask
  | .service code => le 1 2 ++ le 2 code

def readScope : Read Scope := fun l => do
  let (k, l) ← readLe 1 l
  match k with
  | 0 => some (.wall, l)
  | 1 => do
    let (m, l) ← readMask l
    some (.platforms m, l)
  | 2 => do
    let (c, l) ← readLe 2 l
    some (.service c, l)
  | _ => none

def encodeNoticePut (r : NoticePutReq) : List Byte :=
  le 1 r.id ++ le 1 r.text ++ scopeField r.scope ++ le 1 r.priority ++ optField (le 4) r.startMs ++
    optField (le 4) r.endMs ++ le 1 r.period

def readNoticePut (l : List Byte) : Option NoticePutReq := do
  let (id, l) ← readLe 1 l
  let (text, l) ← readLe 1 l
  let (scope, l) ← readScope l
  let (priority, l) ← readLe 1 l
  let (startMs, l) ← readOpt (readLe 4) l
  let (endMs, l) ← readOpt (readLe 4) l
  let (period, l) ← readLe 1 l
  atEnd { id, text, scope, priority, startMs, endMs, period } l

/-! ## VIEW_SET (R78, R79) -/

/-- The number of a source with its parameters, each in its place: the source's own follow `page_period_s` bare, and those of the other
sources take no byte (DESIGN CHOICE, notes/assumptions/46.md). -/
def windowField (r : WindowReq) : List Byte :=
  let head (source : Nat) : List Byte :=
    flagByte r.enabled ++ le 1 r.firstRow ++ le 1 r.rowCount ++ le 1 source ++ le 1 r.period
  match r.source with
  | .departures mask departed cancelled offset =>
    head 0 ++ maskField mask ++ flagByte departed ++ flagByte cancelled ++ le 1 offset
  | .platform p => head 1 ++ le 1 p
  | .clock => head 2
  | .ticker mask => head 3 ++ maskField mask
  | .fixed t => head 4 ++ le 1 t
  | .unknown code => head code

/-- The parameters of a source, without presence bytes (DESIGN CHOICE, notes/assumptions/46.md). -/
def readSource (source : Nat) : Read SourceReq := fun l =>
  match source with
  | 0 => do
    let (mask, l) ← readMask l
    let (departed, l) ← readFlag l
    let (cancelled, l) ← readFlag l
    let (offset, l) ← readLe 1 l
    some (.departures mask departed cancelled offset, l)
  | 1 => do
    let (p, l) ← readLe 1 l
    some (.platform p, l)
  | 2 => some (.clock, l)
  | 3 => do
    let (mask, l) ← readMask l
    some (.ticker mask, l)
  | 4 => do
    let (t, l) ← readLe 1 l
    some (.fixed t, l)
  | k => some (.unknown k, l)

def readWindow : Read WindowReq := fun l => do
  let (enabled, l) ← readFlag l
  let (firstRow, l) ← readLe 1 l
  let (rowCount, l) ← readLe 1 l
  let (k, l) ← readLe 1 l
  let (period, l) ← readLe 1 l
  let (source, l) ← readSource k l
  some ({ enabled, firstRow, rowCount, source, period }, l)

/-! ## The wall's requests -/

def encodeCommitSet (r : CommitSetReq) : List Byte :=
  le 2 r.settle ++ le 2 r.deadline ++ le 1 r.stagger ++ le 1 r.batchLimit ++ le 1 r.refresh ++ switchByte r.reports

def readCommitSet (l : List Byte) : Option CommitSetReq := do
  let (settle, l) ← readLe 2 l
  let (deadline, l) ← readLe 2 l
  let (stagger, l) ← readLe 1 l
  let (batchLimit, l) ← readLe 1 l
  let (refresh, l) ← readLe 1 l
  let (reports, l) ← readSwitch l
  atEnd { settle, deadline, stagger, batchLimit, refresh, reports } l

/-- R120: the settings in the order in which the rule first names them: check 2, check 3, the clamped ones, `enable`. -/
def encodeStringSet (r : StringSetReq) : List Byte :=
  le 1 r.string ++ le 1 r.modules ++ le 1 r.rows ++ le 2 r.divI ++ le 1 r.divF ++ le 1 r.group ++ le 1 r.flow ++
    [r.pause] ++ [r.resume] ++ le 1 r.timeout ++ le 1 r.retries ++ switchByte r.enable

def readStringSet (l : List Byte) : Option StringSetReq := do
  let (string, l) ← readLe 1 l
  let (modules, l) ← readLe 1 l
  let (rows, l) ← readLe 1 l
  let (divI, l) ← readLe 2 l
  let (divF, l) ← readLe 1 l
  let (group, l) ← readLe 1 l
  let (flow, l) ← readLe 1 l
  let (pause, l) ← readByte l
  let (resume, l) ← readByte l
  let (timeout, l) ← readLe 1 l
  let (retries, l) ← readLe 1 l
  let (enable, l) ← readSwitch l
  atEnd { string, enable, divI, divF, modules, rows, group, flow, pause, resume, timeout, retries } l

/-! ## The announcements' requests -/

def encodePolicy (r : PolicyReq) : List Byte :=
  le 1 r.kind ++
    match r.kind with
    | 1 => flagByte r.enable ++ le 1 r.priority ++ le 1 r.a ++ le 1 r.b ++ le 1 r.c ++ le 1 r.d
    | 2 => flagByte r.enable ++ le 1 r.priority ++ le 1 r.a ++ le 2 r.b
    | k => if k < 6 then flagByte r.enable ++ le 1 r.priority else []

/-- CUSTOM and unknown kinds have no settings of their own; what follows is not judged, the kind is refused (R145) (DEDUCED, notes/assumptions/15.md). -/
def readPolicy (l : List Byte) : Option PolicyReq := do
  let (kind, l) ← readLe 1 l
  if 6 ≤ kind then some { kind, enable := false, priority := 0, a := 0, b := 0, c := 0, d := 0 } else do
    let (enable, l) ← readFlag l
    let (priority, l) ← readLe 1 l
    match kind with
    | 1 => do
      let (a, l) ← readLe 1 l
      let (b, l) ← readLe 1 l
      let (c, l) ← readLe 1 l
      let (d, l) ← readLe 1 l
      atEnd { kind, enable, priority, a, b, c, d } l
    | 2 => do
      let (a, l) ← readLe 1 l
      let (b, l) ← readLe 2 l
      atEnd { kind, enable, priority, a, b, c := 0, d := 0 } l
    | _ => atEnd { kind, enable, priority, a := 0, b := 0, c := 0, d := 0 } l

/-- The fields of CUE_PUT that a mode carries (R154): line and delay, period and repeats, lead. The mode says which they are, so
none has a presence byte (DEDUCED, notes/assumptions/15.md). -/
def encodeCuePut (r : CuePutReq) : List Byte :=
  le 1 r.kind ++ le 2 r.subject ++ le 1 r.mode ++ [r.zones] ++ le 1 r.priority ++
    match r.mode with
    | 1 => le 1 r.line ++ le 2 r.delayS
    | 2 => le 2 r.periodS ++ le 1 r.repeats
    | 3 => le 1 r.line ++ le 2 r.delayS ++ le 2 r.periodS ++ le 1 r.repeats
    | 4 => le 1 r.leadMin
    | _ => []

/-- The body of CUE_PUT; behind an unknown mode nothing may follow (DEDUCED, notes/assumptions/15.md). -/
def readCuePut (l : List Byte) : Option CuePutReq := do
  let (kind, l) ← readLe 1 l
  let (subject, l) ← readLe 2 l
  let (mode, l) ← readLe 1 l
  let (zones, l) ← readByte l
  let (priority, l) ← readLe 1 l
  let bare : CuePutReq :=
    { kind, subject, mode, zones, priority, line := 0, delayS := 0, periodS := 0, repeats := 0, leadMin := 0 }
  match mode with
  | 1 => do
    let (line, l) ← readLe 1 l
    let (delayS, l) ← readLe 2 l
    atEnd { bare with line, delayS } l
  | 2 => do
    let (periodS, l) ← readLe 2 l
    let (repeats, l) ← readLe 1 l
    atEnd { bare with periodS, repeats } l
  | 3 => do
    let (line, l) ← readLe 1 l
    let (delayS, l) ← readLe 2 l
    let (periodS, l) ← readLe 2 l
    let (repeats, l) ← readLe 1 l
    atEnd { bare with line, delayS, periodS, repeats } l
  | 4 => do
    let (leadMin, l) ← readLe 1 l
    atEnd { bare with leadMin } l
  | _ => atEnd bare l

/-! ## QUERY (R185) -/

def encodeQuery (subject parameter first count : Nat) : List Byte :=
  le 1 subject ++
    match subject with
    | 3 => le 2 parameter
    | 5 => le 1 parameter
    | 11 => le 1 parameter
    | 8 => le 1 parameter ++ le 1 first ++ le 1 count
    | 10 => le 1 parameter ++ le 1 first ++ le 1 count
    | _ => []

/-- An unknown subject is refused whatever follows it (R185). -/
def readQuery (l : List Byte) : Option Request := do
  let (subject, l) ← readLe 1 l
  if 18 ≤ subject then some (.query subject 0 0 0) else
    match subject with
    | 3 => do
      let (p, l) ← readLe 2 l
      atEnd (.query subject p 0 0) l
    | 5 => do
      let (p, l) ← readLe 1 l
      atEnd (.query subject p 0 0) l
    | 11 => do
      let (p, l) ← readLe 1 l
      atEnd (.query subject p 0 0) l
    | 8 => do
      let (p, l) ← readLe 1 l
      let (first, l) ← readLe 1 l
      let (count, l) ← readLe 1 l
      atEnd (.query subject p first count) l
    | 10 => do
      let (p, l) ← readLe 1 l
      let (first, l) ← readLe 1 l
      let (count, l) ← readLe 1 l
      atEnd (.query subject p first count) l
    | _ => atEnd (.query subject 0 0 0) l

/-! ## All requests (kinds table of 11.5) -/

/-- The kind of a request; 0 for what is no request. -/
def requestKind : Request → Nat
  | .timeSet _ => 0x01
  | .timeStep _ => 0x02
  | .clockSet _ _ => 0x03
  | .lineSet _ => 0x04
  | .lineClear _ => 0x05
  | .servicePut _ => 0x06
  | .serviceAmend _ => 0x07
  | .serviceDrop _ => 0x08
  | .textPut _ _ => 0x09
  | .textDrop _ => 0x0A
  | .lifecycleSet _ => 0x0B
  | .noticePut _ => 0x0C
  | .noticeDrop _ => 0x0D
  | .viewSet _ _ _ _ _ => 0x11
  | .composeSet _ => 0x12
  | .batchOpen => 0x13
  | .batchClose => 0x14
  | .commitSet _ => 0x15
  | .stringSet _ => 0x16
  | .linkTest _ => 0x17
  | .policySet _ => 0x18
  | .zoneMapSet _ _ => 0x19
  | .cuePut _ => 0x1A
  | .cueCancel _ => 0x1B
  | .auSet _ _ _ => 0x1C
  | .dialLineSet _ _ _ => 0x1D
  | .dialSet _ _ _ => 0x1E
  | .query _ _ _ _ => 0x1F
  | .restart => 0x20
  | .linkSet _ => 0x21
  | .malformed => 0
  | .unknownKind => 0

/-- The body of a request (R187, 11.5). -/
def encodeRequest : Request → List Byte
  | .timeSet h => le 4 h
  | .timeStep m => leInt 2 m
  | .clockSet mode d => le 1 mode ++ le 2 d
  | .lineSet r => encodeLineSet r
  | .lineClear lines => le 2 lines
  | .servicePut r => encodeServicePut r
  | .serviceAmend r => encodeAmend r
  | .serviceDrop code => le 2 code
  | .textPut index chars => le 1 index ++ textField chars
  | .textDrop index => le 1 index
  | .lifecycleSet r => encodeLifecycle r
  | .noticePut r => encodeNoticePut r
  | .noticeDrop id => le 1 id
  | .viewSet string w0 w1 w2 w3 =>
    le 1 string ++ windowField w0 ++ windowField w1 ++ windowField w2 ++ windowField w3
  | .composeSet minutes => le 1 minutes
  | .batchOpen => []
  | .batchClose => []
  | .commitSet r => encodeCommitSet r
  | .stringSet r => encodeStringSet r
  | .linkTest string => le 1 string
  | .policySet r => encodePolicy r
  | .zoneMapSet platforms concourse => platforms ++ [concourse]
  | .cuePut r => encodeCuePut r
  | .cueCancel handle => le 2 handle
  | .auSet a b c => le 2 a ++ le 2 b ++ le 2 c
  | .dialLineSet line enable width => le 1 line ++ switchByte enable ++ le 2 width
  | .dialSet line dial polarity => le 1 line ++ le 2 dial ++ le 1 polarity
  | .query subject parameter first count => encodeQuery subject parameter first count
  | .restart => []
  | .linkSet rate => le 4 rate
  | .malformed => []
  | .unknownKind => []

/-- The body of a kind, read whole; `none` where it does not match the layout. -/
def readBody (kind : Nat) (l : List Byte) : Option Request :=
  match kind with
  | 0x01 => do
    let (h, l) ← readLe 4 l
    atEnd (.timeSet h) l
  | 0x02 => do
    let (m, l) ← readInt 2 l
    atEnd (.timeStep m) l
  | 0x03 => do
    let (mode, l) ← readLe 1 l
    let (d, l) ← readLe 2 l
    atEnd (.clockSet mode d) l
  | 0x04 => (readLineSet l).map .lineSet
  | 0x05 => do
    let (lines, l) ← readLe 2 l
    atEnd (.lineClear lines) l
  | 0x06 => (readServicePut l).map .servicePut
  | 0x07 => (readAmend l).map .serviceAmend
  | 0x08 => do
    let (code, l) ← readLe 2 l
    atEnd (.serviceDrop code) l
  | 0x09 => do
    let (index, l) ← readLe 1 l
    let (chars, l) ← readText l
    atEnd (.textPut index chars) l
  | 0x0A => do
    let (index, l) ← readLe 1 l
    atEnd (.textDrop index) l
  | 0x0B => (readLifecycle l).map .lifecycleSet
  | 0x0C => (readNoticePut l).map .noticePut
  | 0x0D => do
    let (id, l) ← readLe 1 l
    atEnd (.noticeDrop id) l
  | 0x11 => do
    let (string, l) ← readLe 1 l
    let (w0, l) ← readWindow l
    let (w1, l) ← readWindow l
    let (w2, l) ← readWindow l
    let (w3, l) ← readWindow l
    atEnd (.viewSet string w0 w1 w2 w3) l
  | 0x12 => do
    let (minutes, l) ← readLe 1 l
    atEnd (.composeSet minutes) l
  | 0x13 => atEnd .batchOpen l
  | 0x14 => atEnd .batchClose l
  | 0x15 => (readCommitSet l).map .commitSet
  | 0x16 => (readStringSet l).map .stringSet
  | 0x17 => do
    let (string, l) ← readLe 1 l
    atEnd (.linkTest string) l
  | 0x18 => (readPolicy l).map .policySet
  | 0x19 => do
    let (platforms, l) ← readMany readByte 48 l
    let (concourse, l) ← readByte l
    atEnd (.zoneMapSet platforms concourse) l
  | 0x1A => (readCuePut l).map .cuePut
  | 0x1B => do
    let (handle, l) ← readLe 2 l
    atEnd (.cueCancel handle) l
  | 0x1C => do
    let (a, l) ← readLe 2 l
    let (b, l) ← readLe 2 l
    let (c, l) ← readLe 2 l
    atEnd (.auSet a b c) l
  | 0x1D => do
    let (line, l) ← readLe 1 l
    let (enable, l) ← readSwitch l
    let (width, l) ← readLe 2 l
    atEnd (.dialLineSet line enable width) l
  | 0x1E => do
    let (line, l) ← readLe 1 l
    let (dial, l) ← readLe 2 l
    let (polarity, l) ← readLe 1 l
    atEnd (.dialSet line dial polarity) l
  | 0x1F => readQuery l
  | 0x20 => atEnd .restart l
  | 0x21 => do
    let (rate, l) ← readLe 4 l
    atEnd (.linkSet rate) l
  | _ => none

/-- The kind is a request kind of the kinds table (11.5). -/
def isRequestKind (kind : Nat) : Bool :=
  (decide (0x01 ≤ kind) && decide (kind ≤ 0x0D)) || (decide (0x11 ≤ kind) && decide (kind ≤ 0x21))

/-- A complete frame's kind and body as the dispatcher hands it on (R182). -/
def parseRequest (kind : Nat) (body : List Byte) : Request :=
  if isRequestKind kind then (readBody kind body).getD .malformed else .unknownKind

end Sys2Proof.Machine
end

