-- ==== Sys2Proof/Machine/Layout.lean ====
section
/-! DEFINITION. Machine/Layout.lean: the frames the engine sends, as bytes (11.5 and R187): the CRC-16 of R179, the host frame,
replies and reports, the row record and the string link frames, and the frames to the announcement unit. -/

namespace Sys2Proof.Machine

/-! ## The check of R179 -/

/-- One bit into the register: x^16 + x^12 + x^5 + 1 with the least significant bit first. -/
def crcBit (r : BitVec 16) : BitVec 16 := if r.getLsbD 0 then (r >>> 1) ^^^ 0x8408#16 else r >>> 1

/-- One byte into the register, least significant bit first. -/
def crcByte (r : BitVec 16) (b : Byte) : BitVec 16 :=
  crcBit (crcBit (crcBit (crcBit (crcBit (crcBit (crcBit (crcBit (r ^^^ b.setWidth 16))))))))

/-- The CRC-16 of a run of bytes: register from 0xFFFF, no final inversion. -/
def crc16 (l : List Byte) : BitVec 16 := l.foldl crcByte 0xFFFF#16

/-- The two check bytes of a run of bytes, least significant first. -/
def checkBytes (l : List Byte) : List Byte := le 2 (crc16 l).toNat

/-- The host frame (11.5); the announcement link uses it with tag 0. -/
def hostFrame (kind tag : Nat) (body : List Byte) : List Byte :=
  let inner := le 1 kind ++ le 1 tag ++ le 2 body.length ++ body
  0xA5 :: (inner ++ checkBytes inner)

/-! ## Characters -/

/-- A decimal digit as its character. -/
def digit (n : Nat) : Byte := BitVec.ofNat 8 (0x30 + n % 10)

/-- Two decimal digits. -/
def twoDigits (n : Nat) : Chars := [digit (n / 10), digit n]

/-- A minute of the clock day as HH:MM. -/
def hhmm (m : Nat) : Chars := twoDigits (m / 60) ++ [0x3A] ++ twoDigits (m % 60)

/-- "--:--" (R85). -/
def noTime : Chars := [0x2D, 0x2D, 0x3A, 0x2D, 0x2D]

/-- A number in decimal, without leading zeros. -/
def decimal (n : Nat) : Chars :=
  if n < 10 then [digit n] else if n < 100 then twoDigits n else digit (n / 100) :: twoDigits n

/-- Platform text: the number followed by the side letter, or a dash for platform 0 (R90). -/
def platformText (platform : Nat) (side : Side) : Chars :=
  if platform = 0 then [0x2D]
  else decimal platform ++ match side with
    | .none => []
    | .a => [0x41]
    | .b => [0x42]

/-! ## The row record and the string link frames (11.5) -/

/-- The status field: a code in the order of R91, then its parameter. -/
def statusField : RowStatus → List Byte
  | .cancelled => [0]
  | .departed => [1]
  | .platformChanged t => 2 :: textField t
  | .closing => [3]
  | .delayed => [4]
  | .expected t => 5 :: t
  | .dueIn n => 6 :: le 1 n
  | .due => [7]
  | .boarding => [8]
  | .onTime => [9]

/-- A row record as carried on the string links. -/
def rowField : RowRec → List Byte
  | .departureMain time dest vias platform operator status remark attention =>
    [0] ++ flagByte attention ++ time ++ textField dest ++ listField textField vias ++ textField platform ++
      le 1 operator ++ statusField status ++ textField (remark.getD [])
  | .departureBrief time dest platform operator status attention =>
    [1] ++ flagByte attention ++ time ++ textField dest ++ textField platform ++ le 1 operator ++ statusField status
  | .clock time => [2] ++ flagByte false ++ time
  | .notice text => [3] ++ flagByte false ++ textField text
  | .fixed text => [4] ++ flagByte false ++ textField text
  | .empty => [5] ++ flagByte false

/-- The module a frame is addressed to. -/
def Frame.moduleNo : Frame → Nat
  | .stageRow m _ _ _ => m
  | .poll m => m

/-- The frame is a STAGE_ROW. -/
def Frame.isStage : Frame → Bool
  | .stageRow _ _ _ _ => true
  | .poll _ => false

/-- A string link frame with its check. -/
def stringFrame (moduleNo kind : Nat) (body : List Byte) : List Byte :=
  let inner := le 1 moduleNo ++ le 1 kind ++ le 2 body.length ++ body
  inner ++ checkBytes inner

/-- A frame of the engine on a string link. -/
def frameBytes : Frame → List Byte
  | .stageRow m mr row rec => stringFrame m 1 (le 1 mr ++ le 1 row ++ rowField rec)
  | .poll m => stringFrame m 2 []

/-- The LINK_TEST pattern (11.5). -/
def testPattern : List Byte :=
  [0x00, 0xFF, 0x55, 0xAA, 0x01, 0x02, 0x04, 0x08, 0x10, 0x20, 0x40, 0x80, 0xFE, 0xFD, 0x33, 0xCC]

/-! ## Frames to the announcement unit (11.5) -/

def startFieldBytes : StartFields → List Byte
  | .service time dest vias operator platform fromPlatform delay =>
    time ++ textField dest ++ listField textField vias ++ le 1 operator ++ textField platform ++
      (match fromPlatform with
        | none => []
        | some t => textField t) ++
      (match delay with
        | none => []
        | some (d, t) => le 2 d.code ++ t)
  | .text c => textField c

def auFrameBytes : AuFrame → List Byte
  | .start handle channel zones kind fields =>
    hostFrame 0x01 0 (le 2 handle ++ le 1 channel ++ [zones] ++ le 1 kind.code ++ startFieldBytes fields)
  | .stop handle => hostFrame 0x02 0 (le 2 handle)
  | .status => hostFrame 0x03 0 []

/-! ## Reports -/

/-- A module's flags in a report or a query, in the order of R132; a flag takes one byte (R187). -/
def moduleFlagFields (f : ModuleFlags) : List Byte :=
  flagByte f.contentLost ++ flagByte f.lampFault ++ flagByte f.overheat ++ flagByte f.mismatch

/-- The events of CUE_STATE in the order of R139 and R167, with the reason where the event has one; reasons are numbered from 0
for each event (DEDUCED, notes/assumptions/15.md). -/
def cueEventField : CueEvent → Nat × Option Nat
  | .withdrawnInvalid => (0, some 0)
  | .withdrawnSubjectRetired => (0, some 1)
  | .withdrawnSubjectCancelled => (0, some 2)
  | .withdrawnHostCancel => (0, some 3)
  | .withdrawnPreemptedTwice => (0, some 4)
  | .superseded => (1, none)
  | .evicted => (2, none)
  | .droppedNoZones => (3, some 0)
  | .droppedTableFull => (3, some 1)
  | .started c => (4, some c)
  | .done => (5, none)
  | .failedRefused => (6, some 0)
  | .failedStartTimeout => (6, some 1)
  | .failedOverrun => (6, some 2)
  | .preempted => (7, none)

/-- The kind of a report (kinds table of 11.5). -/
def reportKind : Report → Nat
  | .serviceRetired _ _ _ _ _ => 0x40
  | .noticeEnded _ _ _ => 0x41
  | .dispatchUnmatched _ _ _ _ => 0x42
  | .referenceState _ _ _ _ => 0x43
  | .timeStepped _ _ => 0x44
  | .lineAlarm _ _ _ _ _ _ => 0x45
  | .batchExpired _ _ => 0x46
  | .commitDone _ _ _ _ _ _ _ => 0x47
  | .stringState _ _ _ _ => 0x48
  | .moduleState _ _ _ _ _ _ => 0x49
  | .linkTestResult _ _ _ => 0x4A
  | .cueState _ _ _ _ _ _ => 0x4B
  | .auState _ _ _ => 0x4C
  | .dialState _ _ _ _ _ _ _ => 0x4D
  | .linkError _ _ _ _ _ => 0x4E

/-- The kind-specific fields of a report, in the order their rule names them (R187). -/
def reportFields : Report → List Byte
  | .serviceRetired code reason state seq time =>
    le 2 code ++ le 1 reason.code ++ le 1 state.code ++ le 4 seq.toNat ++ le 4 time
  | .noticeEnded id reason time => le 1 id ++ le 1 reason.code ++ le 4 time
  | .dispatchUnmatched platform line stampMs time => le 1 platform ++ le 1 line ++ le 8 stampMs ++ le 4 time
  | .referenceState old new mode trim => le 1 old.code ++ le 1 new.code ++ le 1 mode.code ++ leInt 2 trim
  | .timeStepped delta time => leInt 4 delta ++ le 4 time
  | .lineAlarm line kind ms lastHigh lastLow suppressed =>
    le 1 line ++ le 1 kind.code ++ le 8 ms ++ le 2 lastHigh ++ le 2 lastLow ++ le 2 suppressed
  | .batchExpired ms seq => le 8 ms ++ le 4 seq.toNat
  | .commitDone generation wallSeq latched failed withdrawn null ms =>
    le 2 generation.toNat ++ le 4 wallSeq.toNat ++ le 2 latched.toNat ++ le 2 failed.toNat ++ le 2 withdrawn.toNat ++
      flagByte null ++ le 8 ms
  | .stringState string state cause generation =>
    le 1 string ++ le 1 state.code ++ le 1 cause.code ++ le 2 generation.toNat
  | .moduleState string moduleNo health missed flags ms =>
    le 1 string ++ le 1 moduleNo ++ le 1 health.code ++ le 1 missed ++ moduleFlagFields flags ++ le 8 ms
  | .linkTestResult string result matched => le 1 string ++ le 1 result.code ++ le 1 matched
  | .cueState handle event origin kind subject ms =>
    le 2 handle ++ le 1 (cueEventField event).1 ++ le 1 origin.code ++ le 1 kind.code ++ le 2 subject ++
      optField (le 1) (cueEventField event).2 ++ le 8 ms
  | .auState available count ms => le 1 (if available then 0 else 1) ++ le 1 count ++ le 8 ms
  | .dialState line old new dial c d ms =>
    le 1 line ++ le 1 old.code ++ le 1 new.code ++ le 2 dial ++ le 2 c ++ le 2 d ++ le 8 ms
  | .linkError cause kind tag count ms => le 1 cause.code ++ le 1 kind ++ le 1 tag ++ le 2 count ++ le 8 ms

/-! ## What the transmitter sends -/

def replyFields : ReplyBody → List Byte
  | .empty => []
  | .servicePut rev inserted => le 4 rev.toNat ++ flagByte inserted
  | .rev seq => le 4 seq.toNat
  | .useCount n => le 2 n
  | .handle h => le 2 h
  | .query bytes => bytes

/-- The frame of a reply or report on CL_TXD (11.5). -/
def txBytes : TxFrame → List Byte
  | .reply r => hostFrame r.kind r.tag (le 1 r.status.code ++ flagByte r.adjusted ++ replyFields r.body)
  | .report r => hostFrame (reportKind r.report) 0 (le 2 r.number.toNat ++ le 2 r.dropped.toNat ++ reportFields r.report)

end Sys2Proof.Machine
end

