-- ==== Sys2Proof/Machine/Receiver.lean ====
section
/-! DEFINITION. Machine/Receiver.lean: the receiver of frames on CL_RXD and AU_RXD (R179, R180, R161): what one character does to
the frame being received, and when a frame is complete or lost. -/

namespace Sys2Proof.Machine

/-- What the receiver comes to at a character. -/
inductive RxEvent where
  | nothing
  | frame (kind tag : Nat) (body : List Byte)
  | lost (cause : LossCause) (kind tag : Nat)
  deriving DecidableEq, Repr

/-- The number that bytes spell, least significant first. -/
def littleEndian : List Byte → Nat
  | [] => 0
  | b :: l => b.toNat + 256 * littleEndian l

/-- R180: kind and tag where HEADER had taken them, 0 where it had not. -/
def Receiver.kindTag : Receiver → Nat × Nat
  | .hunt => (0, 0)
  | .header got => (littleEndian (got.take 1), littleEndian ((got.drop 1).take 1))
  | .body kind tag _ _ => (kind, tag)
  | .check kind tag _ _ => (kind, tag)

/-- The moment a receiver keeps of a character it takes at `now`: none in HUNT, where no gap is reckoned (R180). -/
def Receiver.keeps (now : Nat) : Receiver → Option Nat
  | .hunt => none
  | _ => some now

/-- R180: the gap behind a character at `t`, at a rate in bits a second: the first whole microsecond at which more than four byte
times of ten bits have passed (DEDUCED, notes/assumptions/25.md). -/
def gapFrom (rate t : Nat) : Nat := t + 40000000 / rate + 1

/-- R179: HEADER has its four characters. -/
def headerDone (kind tag length : Nat) : Receiver × RxEvent :=
  if Config.maxRequestBody < length then (.hunt, .lost .badLength kind tag)
  else if length = 0 then (.check kind tag [] [], .nothing)
  else (.body kind tag length [], .nothing)

/-- R179: CHECK has its two characters. -/
def checkDone (kind tag : Nat) (body got : List Byte) : Receiver × RxEvent :=
  if checkBytes (le 1 kind ++ le 1 tag ++ le 2 body.length ++ body) = got then (.hunt, .frame kind tag body)
  else (.hunt, .lost .badCheck kind tag)

/-- R179: one character (DEDUCED, notes/assumptions/4.md). -/
def Receiver.take (c : RxChar) (r : Receiver) : Receiver × RxEvent :=
  match r with
  | .hunt => (if c.framed && c.byte == 0xA5#8 then .header [] else .hunt, .nothing)
  | .header got =>
    if !c.framed then (.hunt, .lost .framing r.kindTag.1 r.kindTag.2)
    else match got with
      | [kind, tag, low] => headerDone kind.toNat tag.toNat (littleEndian [low, c.byte])
      | _ => (.header (got ++ [c.byte]), .nothing)
  | .body kind tag length got =>
    if !c.framed then (.hunt, .lost .framing kind tag)
    else
      let got := got ++ [c.byte]
      if got.length < length then (.body kind tag length got, .nothing) else (.check kind tag got [], .nothing)
  | .check kind tag inner got =>
    if !c.framed then (.hunt, .lost .framing kind tag)
    else match got with
      | [] => (.check kind tag inner [c.byte], .nothing)
      | _ => checkDone kind tag inner (got ++ [c.byte])

end Sys2Proof.Machine
end

