-- ==== Sys2Proof/Machine/Compose.lean ====
section
/-! DEFINITION. Machine/Compose.lean: the Composer (chapter 5): the entries of each source, the row records, the page index, and
the composition of windows and strings into target rows. Composition only reads the departure picture; what it
changes is the views. -/

namespace Sys2Proof.Machine

/-! ## Entries (R83 to R86) -/

/-- R83: the record is listed in a DEPARTURES window. -/
def listed (mask : Platforms) (departed cancelled : Bool) (r : Service) : Bool :=
  (match r.state with
    | .departed => departed
    | .cancelled => cancelled
    | _ => true) && (r.platform == 0 || inMask mask r.platform)

/-- R83: the listed records after the first k, in table order. -/
def departureEntries (w : World) (mask : Platforms) (departed cancelled : Bool) (offset : Nat) : List Service :=
  (w.services.filter (listed mask departed cancelled)).drop offset

/-- R84: the records of one platform in a non-terminal state, in table order. -/
def platformEntries (w : World) (p : Nat) : List Service :=
  w.services.filter fun r => r.platform == p && !r.state.terminal

/-- R86: an active WALL notice, or an active PLATFORMS notice that shares a platform with the mask. -/
def tickerShows (mask : Platforms) (n : Notice) : Bool :=
  n.active && match n.scope with
    | .wall => true
    | .platforms m => (m &&& mask) != 0#48
    | .service _ => false

/-- R86: by priority, then by id (the list is in order of id). -/
def tickerEntries (w : World) (mask : Platforms) : List Notice :=
  let shown := w.notices.filter (tickerShows mask)
  [0, 1, 2, 3].flatMap fun p => shown.filter (·.priority == p)

/-! ## Row records (R90 to R92) -/

/-- R91, R92: the first status whose condition holds; `platformWindow` where the row is in a PLATFORM window. -/
def rowStatus (e : Env) (horizon : Nat) (platformWindow : Bool) (r : Service) : RowStatus :=
  let left := e.timeTo r.effSm
  if r.state == .cancelled then .cancelled
  else if r.state == .departed then .departed
  else if r.attention then
    .platformChanged (match r.prev with
      | some (p, s) => platformText p s
      | none => platformText 0 .none)
  else if r.state == .closing then .closing
  else if r.delay == .indefinite || r.overdue then .delayed
  else if r.delay.count != 0 then .expected (hhmm ((r.effSm + e.dayStart) % 1440).toNat)
  else if platformWindow && e.valid && decide (0 < left) && decide (left ≤ (horizon * 60000 : Nat)) then
    .dueIn ((left + 59999) / 60000).toNat
  else if platformWindow && e.valid && decide (-60000 < left) && decide (left ≤ 0) then .due
  else if r.state == .boarding then .boarding
  else .onTime

/-- R90: the active SERVICE notice for a code of lowest priority value, and among equals of lowest id. -/
def serviceNotice (w : World) (code : Nat) : Option Notice :=
  let own := w.notices.filter fun n => n.active && n.scope == .service code
  ([0, 1, 2, 3].flatMap fun p => own.filter (·.priority == p)).head?

/-- R90: the record's own remark, else the text of an active notice for the service, else absent. -/
def remarkText (w : World) (r : Service) : Option Chars :=
  match r.remark with
  | some i => some (w.chars i)
  | none => (serviceNotice w r.code).map fun n => w.chars n.text

/-- A DEPARTURE_MAIN row (R90). -/
def mainRow (e : Env) (w : World) (platformWindow : Bool) (r : Service) : RowRec :=
  .departureMain (hhmm r.schedHm) (w.chars r.dest) (r.vias.map w.chars) (platformText r.platform r.side) r.operator
    (rowStatus e w.dueHorizon platformWindow r) (remarkText w r) r.attention

/-- A DEPARTURE_BRIEF row (R90); it stands in PLATFORM windows only (R84). -/
def briefRow (e : Env) (w : World) (r : Service) : RowRec :=
  .departureBrief (hhmm r.schedHm) (w.chars r.dest) (platformText r.platform r.side) r.operator
    (rowStatus e w.dueHorizon true r) r.attention

/-- A CLOCK row (R85). -/
def clockRow (e : Env) : RowRec := .clock (if e.valid then hhmm e.minute else noTime)

/-! ## Windows -/

/-- R81: the rows of the window below the row total; 0 where it is clipped out of its string. -/
def Window.rowsIn (x : Window) (total : Nat) : Nat := min x.rowCount (total - x.firstRow)

/-- R86, R89: the page count of a window over `rows` rows. A window that does not rotate has one page, and one clipped out of its
string has a free number of them, 127 at most since its index stays below 127 (R78) (DESIGN CHOICE, notes/assumptions/9.md). -/
def pageCount (w : World) (x : Window) (rows : Nat) : Nat :=
  match x.source with
  | .departures mask departed cancelled offset =>
    let entries := (departureEntries w mask departed cancelled offset).length
    if rows = 0 then clamp 1 127 (Config.clippedPages entries) else max 1 ((entries + rows - 1) / rows)
  | .ticker mask => max 1 (tickerEntries w mask).length
  | _ => 1

/-- R83 to R87: row i of a window of `rows` rows. -/
def windowRow (e : Env) (w : World) (x : Window) (rows i : Nat) : RowRec :=
  match x.source with
  | .departures mask departed cancelled offset =>
    match (departureEntries w mask departed cancelled offset)[x.pageIndex * rows + i]? with
    | some r => mainRow e w false r
    | none => .empty
  | .platform p =>
    match (platformEntries w p)[i]? with
    | some r => if i = 0 then mainRow e w true r else briefRow e w r
    | none => .empty
  | .clock => if i = 0 then clockRow e else .empty
  | .ticker mask =>
    if i = 0 then
      match (tickerEntries w mask)[x.pageIndex]? with
      | some n => .notice (w.chars n.text)
      | none => .empty
    else .empty
  | .fixed t =>
    if i = 0 then
      match w.text t with
      | some s => .fixed s.chars
      | none => .empty
    else .empty

/-- R89: an index that is not below the page count becomes 0 before the rows are built. -/
def Window.checked (w : World) (x : Window) (rows : Nat) : Window :=
  if x.pageIndex < pageCount w x rows then x else { x with pageIndex := 0 }

/-- Replace the rows of a run of targets, from row `first`. -/
def setRows (first : Nat) (rows : List RowRec) (targets : List RowRec) : List RowRec :=
  targets.take first ++ rows ++ targets.drop (first + rows.length)

/-- R82: compose one window; a window that covers no row of the string composes nothing (R81). Its page index is then not checked
under R89 and stays as it is, at RESTART's composition (R97) as at any other (DESIGN CHOICE, notes/assumptions/68.md). -/
def composeWindow (e : Env) (w : World) (total : Nat) (slot : Fin 4) (v : View) : View :=
  let x := v.windows[slot]
  let rows := x.rowsIn total
  if !x.enabled || rows == 0 then v else
    let x := x.checked w rows
    { windows := v.windows.set slot x
      targets := setRows x.firstRow ((List.range rows).map (windowRow e w x rows)) v.targets }

/-- Which sources an event can change (R94). -/
structure Filter where
  departures : Bool
  platform : Bool
  clock : Bool
  ticker : Bool
  fixed : Bool
  deriving DecidableEq, Repr

/-- Every window. -/
def Filter.every : Filter :=
  { departures := true, platform := true, clock := true, ticker := true, fixed := true }

/-- DEPARTURES and PLATFORM: a cause of the Service Table (R94). -/
def Filter.services : Filter :=
  { departures := true, platform := true, clock := false, ticker := false, fixed := false }

/-- DEPARTURES, PLATFORM and TICKER: a cause of the Notice List (R94). -/
def Filter.notices : Filter :=
  { departures := true, platform := true, clock := false, ticker := true, fixed := false }

/-- CLOCK and PLATFORM: a minute event (R94). -/
def Filter.minute : Filter :=
  { departures := false, platform := true, clock := true, ticker := false, fixed := false }

/-- PLATFORM: a changed due horizon (R93, R94). -/
def Filter.platforms : Filter :=
  { departures := false, platform := true, clock := false, ticker := false, fixed := false }

def Filter.takes (f : Filter) : Source → Bool
  | .departures _ _ _ _ => f.departures
  | .platform _ => f.platform
  | .clock => f.clock
  | .ticker _ => f.ticker
  | .fixed _ => f.fixed

/-- Compose the windows of a string that the filter takes. -/
def composeView (e : Env) (w : World) (total : Nat) (f : Filter) (v : View) : View :=
  allFour.foldl (fun v slot => if f.takes v.windows[slot].source then composeWindow e w total slot v else v) v

/-- R82: compose a string as a whole: a row that no enabled window covers is EMPTY. -/
def composeWhole (e : Env) (w : World) (total : Nat) (v : View) : View :=
  composeView e w total Filter.every { v with targets := List.replicate total .empty }

/-- R94, R95: compose the windows an event can change on every string, in ascending order; whether any target row was replaced. -/
def World.compose (f : Filter) (e : Env) (w : World) : World × Bool :=
  allStrings.foldl (init := (w, false)) fun (w, changed) n =>
    let old := w.view n
    let new := composeView e w (w.rowTotal n) f old
    (w.setView n new, changed || new.targets != old.targets)

/-- R80, R81: recompose one string as a whole; whether any target row was replaced. -/
def World.composeString (n : StringNo) (e : Env) (w : World) : World × Bool :=
  let old := w.view n
  let new := composeWhole e w (w.rowTotal n) old
  (w.setView n new, new.targets != old.targets)

/-- R97: recompose every row of every string. -/
def World.composeAll (e : Env) (w : World) : World × Bool :=
  allStrings.foldl (init := (w, false)) fun (w, changed) n =>
    let (w, c) := w.composeString n e
    (w, changed || c)

end Sys2Proof.Machine
end

