-- ==== Sys2Proof/Machine/Commit.lean ====
section
/-! DEFINITION. Machine/Commit.lean: the Commit Controller (chapter 6): when a commit is wanted, settling, the staging snapshot, the
outcomes of staging, the two latch groups, completion, and the pulses on the latch lines. With it the three things it
asks of a string channel: to queue the frames of a staged set, to discard them, and to flush (R124, R130, R137). -/

namespace Sys2Proof.Machine

/-! ## What the Controller asks of a channel -/

/-- An exchange is on the line: the channel is SENDING or WAITING (R123). -/
def Channel.onLine (c : Channel) : Bool := c.state == .sending || c.state == .waiting

/-- A number of byte times of the string in whole microseconds, rounded up: a byte time is 2 × (I + F/8) µs (R122) (DEDUCED, notes/assumptions/25.md). -/
def StringSettings.byteTimes (s : StringSettings) (bytes : Nat) : Nat := (bytes * (8 * s.divI + s.divF) + 3) / 4

/-- R136: a LINK_TEST begins to send its sixteen characters; its wait ends two byte times after the sixteenth is due (DEDUCED,
notes/assumptions/52.md). -/
def Channel.beginTest (now : Nat) (c : Channel) : Channel :=
  { c with test := some (.running [] (now + c.settings.byteTimes 18)) }

/-- R136: a LINK_TEST runs: it has begun and not ended. -/
def Channel.testing (c : Channel) : Bool :=
  match c.test with
  | some (.running _ _) => true
  | _ => false

/-- R136: a LINK_TEST that waits for an exchange begins once none is on the line and none is to be resent. -/
def Channel.wakeTest (now : Nat) (c : Channel) : Channel :=
  let resend := match c.queue.head? with
    | some q => q.attempts != 0
    | none => false
  if c.test == some .waiting && !c.onLine && !resend then c.beginTest now else c

/-- R133: a HELD channel whose queue is empty enters READY. -/
def Channel.unhold (c : Channel) : Channel :=
  if c.state == .held && c.queue.isEmpty then { c with state := .ready, holdTimer := none } else c

/-- R130: a STAGE_ROW exchange on the line finishes as an orphan. -/
def Channel.orphanStage (c : Channel) : Channel :=
  match c.exchange with
  | some x => if x.frame.isStage then { c with exchange := some { x with orphan := true } } else c
  | none => c

/-- The frame of the exchange on the line, which stays at the head of the queue until that exchange ends (R124, R129); none where
no exchange is on the line. -/
def Channel.lineFrame (c : Channel) : List QueuedFrame := if c.onLine then c.queue.take 1 else []

/-- The frames that wait behind the exchange on the line, or all where none is on the line. A discard and a flush take these
alone, and QUERY shows them (R124, R137) (DESIGN CHOICE, notes/assumptions/35.md). -/
def Channel.waitingFrames (c : Channel) : List QueuedFrame := if c.onLine then c.queue.tail else c.queue

/-- R124, R130: discard the queued STAGE_ROW frames; the exchange on the line runs on. -/
def Channel.discard (now : Nat) (c : Channel) : Channel :=
  ({ c with queue := c.lineFrame ++ c.waitingFrames.filter fun q : QueuedFrame => !q.frame.isStage }.orphanStage.unhold).wakeTest now

/-- R137: RESTART flushes the queue, a POLL that awaits its next attempt with it (DESIGN CHOICE, notes/assumptions/35.md); the
exchange on the line runs on. -/
def Channel.flush (now : Nat) (c : Channel) : Channel := ({ c with queue := c.lineFrame }.orphanStage.unhold).wakeTest now

/-- R124: the STAGE_ROW frame of a string row. -/
def stageFrame (s : StringSettings) (x : StagedRow) : Frame :=
  .stageRow (x.row / s.rows + 1) (x.row % s.rows) x.row x.rowRec

/-- R124: the frames of a staged set join in row order, ahead of a POLL that waits in the queue. A frame that has begun
stays at the head: its exchange finishes first. -/
def Channel.queueStages (l : List StagedRow) (c : Channel) : Channel :=
  let begun := c.queue.filter (·.attempts != 0)
  let waiting := c.queue.filter (·.attempts == 0)
  let new : List QueuedFrame := l.map fun x => { frame := stageFrame c.settings x, attempts := 0 }
  { c with
    queue := begun ++ waiting.filter (·.frame.isStage) ++ new ++ waiting.filter (!·.frame.isStage) }

/-- The module records of the modules a string has. -/
def Channel.fitted (c : Channel) : List ModuleRec := c.modules.toList.take c.settings.modules

/-- The health of module m, counted from 1. -/
def Channel.healthOf (c : Channel) (m : Nat) : Health :=
  ((c.modules.toList[m - 1]?).map (·.health)).getD .ok

/-! ## Readiness and wanting a commit (R99, R101) -/

/-- R99: enabled, channel not FAULTED, no module LOST. -/
def World.ready (w : World) (n : StringNo) : Bool :=
  let c := w.channel n
  c.settings.enabled && c.state != .faulted && c.fitted.all (·.health != .lost)

/-- The rows 0..total - 1 of a list of targets as a staged set. -/
def stagedRows (rows : List Nat) (targets : List RowRec) : List StagedRow :=
  rows.map fun i => { row := i, rowRec := targets.getD i .empty, acked := false }

/-- The rows whose target differs from the shown row (R90, R99). -/
def World.dirty (w : World) (n : StringNo) : List Nat :=
  let targets := (w.view n).targets
  let shown := (w.wall n).shown
  (List.range targets.length).filter fun i => targets[i]? != shown[i]?

/-- R101, the second and third conditions, for one string. -/
def World.stringWants (w : World) (n : StringNo) : Bool :=
  let x := w.wall n
  (x.lit == .lit && (w.channel n).settings.enabled && (!(w.dirty n).isEmpty || x.restage)) ||
    (x.lit == .dark && w.ready n && x.restage)

/-- R101: a commit is wanted. -/
def World.wanted (w : World) : Bool := later w.tableSeq w.commit.wallSeq || allStrings.any w.stringWants

/-- R102: enter SETTLING; with the settle skipped or a settle time of 0 the timer has expired. -/
def World.settle (skip : Bool) (e : Env) (w : World) : World :=
  if skip || w.commit.settings.settle == 0 then
    { w with commit := { w.commit with state := .settling, settleTimer := none } }.push .stage
  else
    { w with
      commit := { w.commit with state := .settling, settleTimer := some (e.inMs w.commit.settings.settle) } }

/-- R101: judge, at an event that can make it so, whether a commit is wanted. -/
def World.judge (e : Env) (w : World) : World :=
  if w.commit.state == .quiet && w.wanted then w.settle false e else w

/-- R102, R113: a target change, or an advance of table_seq, reaches the Controller (DEDUCED, notes/assumptions/30.md). -/
def World.tell (changed mark : Bool) (e : Env) (w : World) : World :=
  if changed && mark then
    match w.commit.state with
    | .quiet => if w.wanted then w.settle true e else w
    | .settling => { w with commit := { w.commit with settleTimer := none } }.push .stage
    | _ => { w with commit := { w.commit with minutePending := true } }
  else w.judge e

/-- A composition with what it hands on (R95). -/
def World.composed (f : Filter) (mark : Bool) (e : Env) (w : World) : World :=
  let (w, changed) := w.compose f e
  w.tell changed mark e

/-! ## Pulses (R100) -/

/-- How long a pulse lasts. -/
def PulseKind.us : PulseKind → Nat
  | .latch => Config.latchUs
  | .blank => Config.blankUs

/-- R100: ask for a pulse; one asked for during another begins at its end. -/
def LatchLine.ask (kind : PulseKind) (ofCommit : Bool) (now : Nat) (l : LatchLine) : LatchLine :=
  match l.pulses with
  | [] => { pulses := [{ kind, ofCommit }], ends := some (now + kind.us) }
  | _ :: _ => { l with pulses := l.pulses ++ [{ kind, ofCommit }] }

/-- The pulse on the line has ended at `now`: the next one follows without a gap. -/
def LatchLine.next (now : Nat) (l : LatchLine) : LatchLine :=
  match l.pulses.tail with
  | [] => { pulses := [], ends := none }
  | p :: rest => { pulses := p :: rest, ends := some (now + p.kind.us) }

/-- Ask for a pulse on the latch line of string n. -/
def World.pulse (n : StringNo) (kind : PulseKind) (ofCommit : Bool) (e : Env) (w : World) : World :=
  w.setLatch n ((w.latch n).ask kind ofCommit e.now)

/-- A pulse of the present commit is on its line or waits for it. -/
def World.commitPulses (w : World) : Bool := allStrings.any fun n => (w.latch n).pulses.any (·.ofCommit)

/-! ## Lit and dark (R99) -/

/-- A string becomes DARK: its shown rows all become EMPTY and its restage-all flag is set (R99). -/
def Wall.darken (total : Nat) (x : Wall) : Wall :=
  { x with lit := .dark, shown := List.replicate total .empty, restage := true }

/-- R111, step 1: each row of the staged set becomes the shown row of that index. -/
def latchRows (staged : List StagedRow) (shown : List RowRec) : List RowRec :=
  staged.foldl (fun l x => l.set x.row x.rowRec) shown

/-! ## Completion (R111, R112) -/

/-- The set of the strings with a part. -/
def World.partMask (w : World) (p : Part) : Strings :=
  allStrings.foldl (fun m n => if (w.wall n).part == p then m ||| stringBit n else m) 0#16

/-- R111, steps 1 and 2, for one string. -/
def World.completeString (n : StringNo) (w : World) : World :=
  let x := w.wall n
  match x.part with
  | .staged => w.setWall n { x with lit := .lit, shown := latchRows x.staged x.shown }
  | .failed => w.setWall n (x.darken (w.rowTotal n))
  | _ => w

/-- R112: the STRING_STATE of a string whose lit state changed at this completion. -/
def litReport (n : StringNo) (before after : Wall) (generation : Count16) : List Report :=
  if before.lit == after.lit then []
  else [.stringState (n.val + 1) after.lit
    (match after.lit, before.cause with
      | .dark, some c => .failed c
      | _, _ => .latched) generation]

/-- R111, step 6, for one string. -/
def World.clearPart (n : StringNo) (w : World) : World :=
  w.setWall n { w.wall n with part := .none, staged := [], cause := none }

/-- R111: the commit completes. -/
def World.complete (null : Bool) (e : Env) (w : World) : World :=
  let done := allStrings.foldl (fun w n => w.completeString n) w
  let generation := w.commit.generation + 1
  let strings := allStrings.flatMap fun n => litReport n (w.wall n) (done.wall n) generation
  let doneReport : List Report :=
    if w.commit.settings.reports then
      [.commitDone generation w.commit.commitSeq (w.partMask .staged) (w.partMask .failed) (w.partMask .withdrawn) null
        e.nowMs]
    else []
  let after := allStrings.foldl (fun w n => w.clearPart n) done
  let after :=
    { after with
      commit := { w.commit with state := .quiet, wallSeq := w.commit.commitSeq, generation := generation }
      out := w.out ++ strings ++ doneReport }.push .release
  if after.wanted then after.settle w.commit.minutePending e else after

/-- R111: completion is due once LATCH_B has been entered and every pulse of the commit has ended. -/
def World.finishIfDone (e : Env) (w : World) : World :=
  if w.commit.state == .latchB && !w.commitPulses then w.complete false e else w

/-! ## Latching (R110) -/

/-- R110: the pulse of one participant in its latch group. -/
def World.groupPulse (g : Group) (n : StringNo) (e : Env) (w : World) : World :=
  if (w.channel n).settings.group == g then
    match (w.wall n).part with
    | .staged => w.pulse n .latch true e
    | .failed => w.pulse n .blank true e
    | _ => w
  else w

/-- R110: at least one participant of the group is STAGED or FAILED. -/
def World.groupActive (g : Group) (w : World) : Bool :=
  allStrings.any fun n =>
    (w.channel n).settings.group == g && ((w.wall n).part == .staged || (w.wall n).part == .failed)

/-- R110: enter LATCH_B. -/
def World.enterLatchB (e : Env) (w : World) : World :=
  let w := { w with commit := { w.commit with state := .latchB, staggerTimer := none } }
  (allStrings.foldl (fun w n => w.groupPulse .b n e) w).finishIfDone e

/-- R110: enter LATCH_A; the stagger is waited only between two groups that both have a participant to pulse. -/
def World.enterLatchA (e : Env) (w : World) : World :=
  let w := { w with commit := { w.commit with state := .latchA, deadlineTimer := none } }
  let both := w.groupActive .a && w.groupActive .b
  let w := allStrings.foldl (fun w n => w.groupPulse .a n e) w
  if both && w.commit.settings.stagger != 0 then
    { w with commit := { w.commit with staggerTimer := some (e.inMs w.commit.settings.stagger) } }
  else w.enterLatchB e

/-- R108: STAGING ends when no participant remains in part STAGING. -/
def World.endStaging (e : Env) (w : World) : World :=
  if w.commit.state == .staging && allStrings.all (fun n => (w.wall n).part != .staging) then w.enterLatchA e else w

/-! ## Staging (R105 to R109) -/

/-- R106: how a participant with this staged set is judged: why it fails at once, if it does. A FAULTED channel is its cause where a
staged row lies on a LOST module too (DESIGN CHOICE, notes/assumptions/66.md). -/
def failsAtOnce (c : Channel) (staged : List StagedRow) : Option FailCause :=
  if c.state == .faulted then some .faulted
  else if staged.any (fun x => c.healthOf (x.row / c.settings.rows + 1) == .lost) then some .lostModule
  else none

/-- R105, R106: the staged set and the part of one string. -/
def World.stageString (n : StringNo) (w : World) : World :=
  let x := w.wall n
  let c := w.channel n
  let rows := if x.restage then List.range c.settings.rowTotal else w.dirty n
  let staged := stagedRows rows (w.view n).targets
  if !c.settings.enabled || staged.isEmpty || (x.lit == .dark && !w.ready n) then w
  else match failsAtOnce c staged with
    | some cause => w.setWall n { x with part := .failed, restage := true, staged := staged, cause := some cause }
    | none =>
      (w.setWall n { x with part := .staging, restage := false, staged := staged, cause := none }).setChannel n
        (c.queueStages staged)

/-- R105: the snapshot; a commit with no participants completes at once (R107). -/
def World.beginStaging (e : Env) (w : World) : World :=
  let w := { w with
    commit := { w.commit with commitSeq := w.tableSeq, minutePending := false, settleTimer := none } }
  let w := allStrings.foldl (fun w n => w.stageString n) w
  if allStrings.all (fun n => (w.wall n).part == .none) then w.complete true e
  else
    { w with
      commit := { w.commit with
        state := .staging
        deadlineTimer := some (e.inMs w.commit.settings.deadline) } }.endStaging e

/-- R102: SETTLING ends once the settle timer has expired or been skipped and the batch is CLOSED. -/
def World.stageIfSettled (e : Env) (w : World) : World :=
  if w.commit.state == .settling && w.commit.settleTimer.isNone && !w.commit.batchOpen then w.beginStaging e else w

/-- R108: a participant in part STAGING fails; its queued frames are discarded. -/
def World.markFailed (n : StringNo) (cause : FailCause) (e : Env) (w : World) : World :=
  if (w.wall n).part == .staging then
    (w.setWall n { w.wall n with part := .failed, restage := true, cause := some cause }).setChannel n
      ((w.channel n).discard e.now)
  else w

/-- R108: a participant fails, which may end STAGING. -/
def World.fail (n : StringNo) (cause : FailCause) (e : Env) (w : World) : World := (w.markFailed n cause e).endStaging e

/-- R108: a staged row is acknowledged; with every row acknowledged the part becomes STAGED. -/
def World.acknowledge (n : StringNo) (row : Nat) (e : Env) (w : World) : World :=
  let x := w.wall n
  if x.part == .staging then
    let staged := updateWhere (·.row == row) (fun s => { s with acked := true }) x.staged
    let part := if staged.all (·.acked) then .staged else .staging
    (w.setWall n { x with staged := staged, part := part }).endStaging e
  else w

/-- R108: a row of the staged set is rejected or given up. -/
def World.failRow (n : StringNo) (row : Nat) (cause : FailCause) (e : Env) (w : World) : World :=
  if (w.wall n).staged.any (·.row == row) then w.fail n cause e else w

/-- R108: a module becomes LOST; a participant with a staged row on it fails. -/
def World.moduleLost (n : StringNo) (moduleNo : Nat) (e : Env) (w : World) : World :=
  let rows := (w.channel n).settings.rows
  if (w.wall n).staged.any (fun x => x.row / rows + 1 == moduleNo) then w.fail n .lostModule e else w

/-- R116: set a string's restage-all flag, which may make a commit wanted. -/
def World.restageAll (n : StringNo) (e : Env) (w : World) : World :=
  (w.setWall n { w.wall n with restage := true }).judge e

/-- R109: every participant still in part STAGING fails with cause DEADLINE. -/
def World.deadline (e : Env) (w : World) : World :=
  let w := { w with commit := { w.commit with deadlineTimer := none } }
  (allStrings.foldl (fun w n => w.markFailed n .deadline e) w).endStaging e

/-! ## STRING_SET and RESTART (R114, R118) -/

/-- R114: blank the string, darken it, and withdraw it from a commit in flight. -/
def World.blankString (n : StringNo) (e : Env) (w : World) : World :=
  let x := w.wall n
  let inCommit := x.part != .none
  let w := w.pulse n .blank false e
  let w := w.setWall n { x.darken (w.rowTotal n) with part := if inCommit then .withdrawn else .none }
  if x.lit == .lit then w.report (.stringState (n.val + 1) .dark .stringSet w.commit.generation) else w

/-- R118, steps 2 and 3, for one string: the latch pulses that have not begun are not sent, and an enabled string is
blanked and darkened. -/
def World.restartString (n : StringNo) (e : Env) (w : World) : World :=
  let w := w.setChannel n ((w.channel n).flush e.now)
  let l := w.latch n
  let kept := (l.pulses.take 1 ++ (l.pulses.drop 1).filter (·.kind == .blank)).map fun p => { p with ofCommit := false }
  let w := w.setLatch n { l with pulses := kept }
  let w := w.setWall n { w.wall n with part := .none, staged := [], cause := none }
  if (w.channel n).settings.enabled then
    (w.pulse n .blank false e).setWall n ((w.wall n).darken (w.rowTotal n))
  else w

/-- R118: RESTART reaches the Controller, table_seq having been set to 0. -/
def World.restartCommit (e : Env) (w : World) : World :=
  let w := allStrings.foldl (fun w n => w.restartString n e) w
  { w with
    commit := { w.commit with
      state := .quiet
      commitSeq := 0
      wallSeq := 0
      generation := 0
      minutePending := false
      settleTimer := none
      deadlineTimer := none
      staggerTimer := none
      batchOpen := false
      batchTimer := none } }

end Sys2Proof.Machine
end

