-- ==== Sys2Proof/Machine/Cues.lean ====
section
/-! DEFINITION. Machine/Cues.lean: the cue table of the Cue Scheduler (chapter 8): handles, zones, making, supersede, eviction,
withdrawal, the entry to PENDING_WALL and QUEUED, triggers and anchors, the automatic cues of a handed-on cause, and
the host's cue and policy requests. Asking a play to stop (R164) stands here too, since leaving the table asks it. -/

namespace Sys2Proof.Machine

/-! ## The cue table -/

def World.cue (w : World) (handle : Nat) : Option Cue := w.cues.find? (·.handle == handle)
def World.cueOf (w : World) (kind : CueKind) (subject : Nat) : Option Cue :=
  w.cues.find? fun c => c.kind == kind && c.subject == subject
def World.cueAt (w : World) (slot : Nat) : Option Cue := w.cues.find? (·.slot == slot)

/-- A cue in its slot with its new contents. -/
def World.setCue (c : Cue) (w : World) : World := { w with cues := insertCue c w.cues }

/-- A slot becomes free (R138). -/
def World.dropCue (slot : Nat) (w : World) : World := { w with cues := w.cues.filter (·.slot != slot) }

/-- CUE_STATE about a cue of the table (R139). -/
def World.cueReport (event : CueEvent) (c : Cue) (e : Env) (w : World) : World :=
  w.report (.cueState c.handle event c.origin c.kind c.subject e.nowMs)

/-- CUE_STATE DROPPED, with handle 0 (R146, R148). -/
def World.droppedReport (event : CueEvent) (c : Cue) (e : Env) (w : World) : World :=
  w.report (.cueState 0 event .auto c.kind c.subject e.nowMs)

/-- R147, R153, R155: an automatic PLATFORM_CHANGE cue that ended other than by DONE is told to the Service Table. -/
def World.tellEnded (origin : Origin) (kind : CueKind) (subject handle : Nat) (w : World) : World :=
  if origin == .auto && kind == .platformChange then w.push (.cueEnded subject handle) else w

/-! ## Play channels as the cue table sees them -/

def World.setPlay (i : Fin 4) (x : PlayChannel) (w : World) : World :=
  { w with au := { w.au with channels := w.au.channels.set i x } }

/-- A frame handed to the transmitter of the announcement link. -/
def World.auSend (f : AuFrame) (w : World) : World := { w with au := { w.au with made := w.au.made ++ [f] } }

/-- The channel that holds a handle (R157). -/
def World.playOf (w : World) (handle : Nat) : Option (Fin 4) :=
  allFour.find? fun i => match w.au.channels[i].play with
    | some p => p.handle == handle
    | none => false

/-- R164: a stop is asked for on a channel; on a STOPPING or FREE one it does nothing. -/
def World.stopChannel (i : Fin 4) (e : Env) (w : World) : World :=
  let x := w.au.channels[i]
  match x.play with
  | none => w
  | some p =>
    if x.phase == .starting || x.phase == .playing then
      (w.setPlay i { x with phase := .stopping, timer := some (e.inMs w.au.stopWait) }).auSend (.stop p.handle)
    else w

/-- R164: the play of a cue is to stop. -/
def World.stopPlay (handle : Nat) (e : Env) (w : World) : World :=
  match w.playOf handle with
  | some i => w.stopChannel i e
  | none => w

/-- A cue leaves the table before its play is over or has begun, with its CUE_STATE (R147, R148, R152, R153, R155). -/
def World.leave (event : CueEvent) (c : Cue) (e : Env) (w : World) : World :=
  let w := (w.dropCue c.slot).cueReport event c e
  let w := if c.state.isPending then w else w.stopPlay c.handle e
  w.tellEnded c.origin c.kind c.subject c.handle

/-! ## Handles (R139) -/

/-- The counter advances by one, from 65,535 to 1. -/
def nextHandleNo (h : Nat) : Nat := if h < 65535 then h + 1 else 1

/-- The handle is held by a cue of the table or by a play channel. -/
def World.handleHeld (w : World) (h : Nat) : Bool := (w.cue h).isSome || (w.playOf h).isSome

/-- The first handle from h on that is not held; `fuel` bounds the handles passed over, of which 36 can be held. -/
def World.freeHandle (w : World) : Nat → Nat → Nat
  | 0, h => h
  | fuel + 1, h => if w.handleHeld h then w.freeHandle fuel (nextHandleNo h) else h

/-- The handle given next. -/
def World.handleToGive (w : World) : Nat := w.freeHandle 36 w.nextHandle

/-! ## Zones (R146) -/

/-- Map(p): the mask of platform p, empty for p = 0. -/
def World.map (w : World) (p : Nat) : Zones := if p = 0 then 0#8 else w.zoneMap.getD (p - 1) 0#8

/-- The platforms 1..48. -/
def platformNumbers : List Nat := (List.range 48).map (· + 1)

/-- The union of the maps of a run of platforms. -/
def World.mapAll (w : World) (l : List Nat) : Zones := l.foldl (fun z p => z ||| w.map p) 0#8

/-- The platform of a record; 0 where there is none. -/
def World.platformOf (w : World) (code : Nat) : Nat := ((w.service code).map (·.platform)).getD 0

/-- The zones of an automatic cue. -/
def World.autoZones (w : World) (kind : CueKind) (subject : Nat) (old : Option Nat) : Zones :=
  match kind with
  | .platformChange => w.map (old.getD 0) ||| w.map (w.platformOf subject) ||| w.concourse
  | .approach => w.map (w.platformOf subject)
  | .notice =>
    match w.notice subject with
    | some n =>
      match n.scope with
      | .wall => w.concourse ||| w.mapAll platformNumbers
      | .platforms m => w.mapAll (platformNumbers.filter (inMask m))
      | .service code => w.map (w.platformOf code) ||| w.concourse
    | none => 0#8
  | _ => w.map (w.platformOf subject) ||| w.concourse

/-- R146: an automatic cue's zones are computed again; where they come out empty the old ones stay (DEDUCED, notes/assumptions/20.md). -/
def World.rezone (w : World) (c : Cue) : Cue :=
  let zones := w.autoZones c.kind c.subject c.oldPlatform
  if c.origin == .auto && zones != 0#8 then { c with zones } else c

/-! ## Show before say (R142) -/

/-- The `rev` of a cue's subject as it stands; absent where the subject is gone. -/
def World.subjectRev (w : World) (c : Cue) : Option Seq :=
  match c.kind with
  | .notice => (w.notice c.subject).map (·.rev)
  | .custom => (w.text c.subject).map (·.rev)
  | _ => (w.service c.subject).map (·.rev)

/-- R142: the mark a cue takes on an entry to PENDING_WALL. -/
def World.entrySeq (w : World) (c : Cue) : Seq :=
  match c.kind with
  | .custom => w.tableSeq
  | _ => (w.subjectRev c).getD c.seq

/-- R142: a cue in PENDING_WALL enters QUEUED where the wall has reached its mark. -/
def World.queueIfShown (c : Cue) (e : Env) (w : World) : World :=
  if notEarlier w.commit.wallSeq c.seq then
    (w.setCue { c with state := .queued, queuedAt := some e.now, aged := 0 }).push .arbiter
  else w.setCue c

/-- R142: an entry to PENDING_WALL. -/
def World.toWall (c : Cue) (e : Env) (w : World) : World :=
  w.queueIfShown { c with state := .pendingWall, timer := none, queuedAt := none, seq := w.entrySeq c } e

/-- R141, R146: an entry to PENDING_WALL of a cue that was ARMED, at once or through DELAYING. -/
def World.fallDue (c : Cue) (e : Env) (w : World) : World := w.toWall (w.rezone c) e

/-- R142: a stamp of its subject raises the mark of a cue in PENDING_WALL. -/
def World.raise (test : Cue → Bool) (rev : Seq) (w : World) : World :=
  { w with cues := updateWhere (fun c => c.state == .pendingWall && test c) (fun c => { c with seq := rev }) w.cues }

/-- R142: a commit completion queues the cues that the wall has reached, in ascending slot order. -/
def World.releaseCues (e : Env) (w : World) : World :=
  (w.cues.filter (·.state == .pendingWall)).foldl (fun w c => w.queueIfShown c e) w

/-! ## Triggers and anchors (R141) -/

/-- The cue is ARMED in a triggered mode and waits for a trigger, not for its period. -/
def Cue.awaitsTrigger (c : Cue) : Bool := c.state == .armed && c.mode.isTriggered && c.timer.isNone

/-- R141: a trigger with the timestamp `stamp`. -/
def World.triggerCue (c : Cue) (stamp : Nat) (e : Env) (w : World) : World :=
  let expiry := stamp + c.delayS.getD 0 * Config.secondUs
  if expiry ≤ e.now then w.fallDue c e else w.setCue { c with state := .delaying, timer := some expiry }

/-- R151: the automatic APPROACH cue that an edge of role APPROACH(q) triggers. -/
def World.approachCue (w : World) (q : Nat) : Option Cue :=
  (w.services.filter fun r => r.platform == q && (r.state == .boarding || r.state == .closing)).findSome? fun r =>
    w.cues.find? fun c => c.origin == .auto && c.kind == .approach && c.subject == r.code && c.awaitsTrigger

/-- R141: a qualified edge of a line, 1..12, with its role's approach platform. -/
def World.edge (line : Nat) (approach : Option Nat) (stamp : Nat) (e : Env) (w : World) : World :=
  let bound := w.cues.filter fun c => c.origin == .host && c.line == some line && c.awaitsTrigger
  let auto := approach.bind w.approachCue
  let w := bound.foldl (fun w c => w.triggerCue c stamp e) w
  match auto with
  | some c => w.triggerCue c stamp e
  | none => w

/-- R141: the anchor of an ANCHORED cue has come. -/
def World.anchorDue (w : World) (c : Cue) (e : Env) : Bool :=
  e.valid && match w.service c.subject with
    | some r => decide (e.timeTo r.effSm ≤ (c.leadMin.getD 0 * 60000 : Nat))
    | none => false

/-- R141: judge the anchors of the cues that a test picks. -/
def World.judgeAnchors (test : Cue → Bool) (e : Env) (w : World) : World :=
  (w.cues.filter fun c => c.mode == .anchored && c.state == .armed && test c).foldl
    (fun w c => if w.anchorDue c e then w.fallDue c e else w) w

/-! ## Making cues (R147, R148, R154) -/

/-- A cue as it is drafted, before it has a slot, a handle and its zones. `seq` is 0 until the first entry to PENDING_WALL (DESIGN
CHOICE, notes/assumptions/37.md). -/
def Cue.draft (origin : Origin) (kind : CueKind) (subject : Nat) (mode : CueMode) (priority : Nat) : Cue where
  handle := 0
  slot := 0
  origin := origin
  kind := kind
  subject := subject
  mode := mode
  line := none
  delayS := none
  periodS := none
  repeatsLeft := none
  leadMin := none
  zones := 0#8
  priority := priority
  seq := 0#32
  oldPlatform := none
  timer := none
  queuedAt := none
  startedDelay := none
  preempted := false
  state := .armed
  subjectGone := false
  aged := 0

/-- R65: the Service Table is told of the cue made for a record's latest platform change. -/
def World.tellMade (code handle : Nat) (w : World) : World :=
  { w with
    services := updateWhere (·.code == code) (fun r => { r with changeCue := some { handle, heard := false } }) w.services }

/-- R147, step 4: the cue is made in a slot, with a new handle, in the state its mode gives (R140). -/
def World.seat (slot : Nat) (c : Cue) (e : Env) (w : World) : World :=
  let h := w.handleToGive
  let c := { c with handle := h, slot }
  let w := { w with nextHandle := nextHandleNo h }
  let w := match c.mode with
    | .oneShot => w.toWall c e
    | .periodic => w.toWall c e
    | .triggered => w.setCue c
    | .triggeredPeriodic => w.setCue c
    | .anchored => if w.anchorDue c e then w.toWall c e else w.setCue c
  if c.origin == .auto && c.kind == .platformChange then w.tellMade c.subject h else w

/-- The lowest free slot (R138). -/
def World.freeSlot (w : World) : Option Nat := (List.range Config.maxCues).find? fun s => (w.cueAt s).isNone

/-- R148: a is evicted before b: without `queued_at` first, then the latest `queued_at`, then the highest slot. -/
def evictedBefore (a b : Cue) : Bool :=
  match a.queuedAt, b.queuedAt with
  | none, some _ => true
  | some _, none => false
  | none, none => decide (b.slot < a.slot)
  | some x, some y => decide (y < x) || (x == y && decide (b.slot < a.slot))

/-- The entry of a list that comes before all others. -/
def firstBy {α : Type} (before : α → α → Bool) : List α → Option α
  | [] => none
  | x :: rest =>
    match firstBy before rest with
    | none => some x
    | some y => if before y x then some y else some x

/-- R148: the cue evicted for a new cue of a priority. -/
def World.evictee (w : World) (priority : Nat) : Option Cue :=
  let waiting := w.cues.filter (·.state.isPending)
  let worst := waiting.foldl (fun p c => max p c.priority) 0
  if priority < worst then firstBy evictedBefore (waiting.filter (·.priority == worst)) else none

/-- R147: make an automatic cue. -/
def World.makeCue (c : Cue) (e : Env) (w : World) : World :=
  let c := { c with zones := w.autoZones c.kind c.subject c.oldPlatform }
  if c.zones == 0#8 then w.droppedReport .droppedNoZones c e
  else match w.cueOf c.kind c.subject with
    | some old => (w.leave .superseded old e).seat old.slot c e
    | none =>
      match w.freeSlot with
      | some s => w.seat s c e
      | none =>
        match w.evictee c.priority with
        | some v => (w.leave .evicted v e).seat v.slot c e
        | none => w.droppedReport .droppedTableFull c e

/-- Make a cue where the policy of its kind is enabled (8.5). -/
def World.makeIf (enabled : Bool) (c : Cue) (e : Env) (w : World) : World := if enabled then w.makeCue c e else w

/-! ## Automatic cues of a service cause (R149 to R152) -/

/-- What a cause did to one record: as it was (none for one inserted) and as the whole cause left it. -/
structure SvcChange where
  before : Option Service
  after : Service
  retired : Option RetireReason
  deriving DecidableEq, Repr

/-- R39: for a record inserted, PLANNED, delay 0, platform 0 are the values before. -/
def SvcChange.stateBefore (d : SvcChange) : SvcState := (d.before.map (·.state)).getD .planned
def SvcChange.delayBefore (d : SvcChange) : Delay := (d.before.map (·.delay)).getD (.minutes 0)
def SvcChange.platformBefore (d : SvcChange) : Nat := (d.before.map (·.platform)).getD 0

/-- The record is in BOARDING or CLOSING. -/
def SvcState.atPlatform : SvcState → Bool
  | .boarding => true
  | .closing => true
  | _ => false

/-- R152: the cancellation of a record: its other playing cues are withdrawn and stopped, then the cue is made (DEDUCED,
notes/assumptions/20.md). Several are withdrawn in ascending slot order (DESIGN CHOICE, notes/assumptions/48.md). -/
def World.cancellationCue (d : SvcChange) (e : Env) (w : World) : World :=
  if d.after.state == .cancelled && !d.stateBefore.terminal then
    let others := w.cues.filter fun c =>
      c.kind.ofService && c.kind != .cancellation && c.subject == d.after.code && !c.state.isPending
    let w := others.foldl (fun w c => w.leave .withdrawnSubjectCancelled c e) w
    let p := w.cuePolicy.cancellation
    w.makeIf p.enable (Cue.draft .auto .cancellation d.after.code .oneShot p.priority) e
  else w

/-- R149. -/
def World.platformCue (d : SvcChange) (e : Env) (w : World) : World :=
  let r := d.after
  let change := d.platformBefore != 0 && r.platform != 0 && d.platformBefore != r.platform
  let near := r.state.atPlatform || (e.valid && decide (e.timeTo r.effSm ≤ 1200000))
  if change && !r.state.terminal && near then
    let p := w.cuePolicy.platformChange
    let c := Cue.draft .auto .platformChange r.code .oneShot (if r.state.atPlatform then 0 else p.priority)
    w.makeIf p.enable { c with oldPlatform := r.prev.map (·.1) } e
  else w

/-- R150: INDEFINITE, or at least the threshold. -/
def CuePolicy.announceable (p : CuePolicy) : Delay → Bool
  | .indefinite => true
  | .minutes n => decide (p.delayThreshold ≤ n)

/-- The two numbers differ by at least the step. -/
def differBy (step a b : Nat) : Bool := decide (step ≤ max a b - min a b)

/-- R150: the conditions on the old, the new and the announced delay; `waiting` where the table holds a DELAY cue (DESIGN CHOICE, notes/assumptions/8.md). -/
def CuePolicy.delayCalls (p : CuePolicy) (old new : Delay) (announced : Option Delay) (waiting : Bool) : Bool :=
  p.announceable new &&
    (!p.announceable old ||
      match old, new with
      | .indefinite, .minutes _ => true
      | .minutes _, .indefinite => true
      | .indefinite, .indefinite => announced.isNone && !waiting
      | .minutes _, .minutes n =>
        match announced with
        | none => !waiting
        | some (.minutes a) => differBy p.delayStep n a
        | some .indefinite => Config.indefiniteDiffers n p.delayStep)

/-- R150. -/
def World.delayCue (d : SvcChange) (e : Env) (w : World) : World :=
  let r := d.after
  let p := w.cuePolicy
  if r.delay != d.delayBefore && !r.state.terminal &&
      p.delayCalls d.delayBefore r.delay r.announced (w.cueOf .delay r.code).isSome then
    let c := Cue.draft .auto .delay r.code .periodic p.delay.priority
    w.makeIf p.delay.enable { c with periodS := some (p.delayPeriod * 60), repeatsLeft := some p.delayRepeats } e
  else w

/-- R151: BOARDING, then APPROACH. -/
def World.boardingCues (d : SvcChange) (e : Env) (w : World) : World :=
  let r := d.after
  if d.stateBefore == .planned && r.state == .boarding then
    let p := w.cuePolicy
    let w := w.makeIf p.boarding.enable (Cue.draft .auto .boarding r.code .oneShot p.boarding.priority) e
    let c :=
      if e.approach.contains r.platform then
        { Cue.draft .auto .approach r.code .triggered p.approach.priority with delayS := some p.approachDelay }
      else { Cue.draft .auto .approach r.code .anchored p.approach.priority with leadMin := some p.approachLead }
    w.makeIf p.approach.enable c e
  else w

/-- The cue is about the service with a code. -/
def Cue.about (code : Nat) (c : Cue) : Bool := c.kind.ofService && c.subject == code

/-- R39, 8.5: a changed record is handed to the Cue Scheduler. -/
def World.serviceCues (d : SvcChange) (e : Env) (w : World) : World :=
  let w := w.raise (Cue.about d.after.code) d.after.rev
  let w := w.cancellationCue d e
  let w := w.platformCue d e
  let w := w.delayCue d e
  let w := w.boardingCues d e
  w.judgeAnchors (Cue.about d.after.code) e

/-! ## Withdrawal (R152, R153) -/

/-- R153: the subject of the picked cues is gone: pending ones are withdrawn in ascending slot order, playing ones leave at
their end. -/
def World.subjectGone (test : Cue → Bool) (e : Env) (w : World) : World :=
  let waiting := w.cues.filter fun c => test c && c.state.isPending
  let w := { w with cues := updateWhere (fun c => test c && !c.state.isPending) (fun c => { c with subjectGone := true }) w.cues }
  waiting.foldl (fun w c => w.leave .withdrawnSubjectRetired c e) w

/-- The cue announces the notice with an id. -/
def Cue.ofNotice (id : Nat) (c : Cue) : Bool := c.kind == .notice && c.subject == id

/-- R152: a notice is handed to the Cue Scheduler, by a put or by a change of `active` (DEDUCED, notes/assumptions/19.md). -/
def World.noticeCues (before : Option Notice) (n : Notice) (put : Bool) (e : Env) (w : World) : World :=
  let present := w.cueOf .notice n.id
  let periodBefore := (before.map (·.period)).getD 0
  if n.active && n.period != 0 && (present.isNone || (put && periodBefore != n.period)) then
    let p := w.cuePolicy.notice
    let c := Cue.draft .auto .notice n.id .periodic p.priority
    w.makeIf p.enable { c with periodS := some (n.period * 60), repeatsLeft := some 0 } e
  else if put && n.period == 0 then
    match present with
    | some c => if c.state.isPending then w.leave .withdrawnInvalid c e else w
    | none => w
  else w

/-! ## Timers of cues (R141) -/

/-- The delay of the cue in a slot has expired. -/
def World.delayExpired (slot : Nat) (e : Env) (w : World) : World :=
  match w.cueAt slot with
  | some c => if c.state == .delaying then w.fallDue c e else w
  | none => w

/-- The period of the cue in a slot has expired. -/
def World.periodExpired (slot : Nat) (e : Env) (w : World) : World :=
  match w.cueAt slot with
  | some c => if c.state == .armed && c.mode.isPeriodic && c.timer.isSome then w.fallDue c e else w
  | none => w

/-! ## Requests -/

/-- A kind's settings of POLICY_SET in their ranges (R145). -/
def CuePolicy.given (p : CuePolicy) (r : PolicyReq) : Option (CuePolicy × Bool) :=
  let k : KindPolicy := { enable := r.enable, priority := r.priority }
  match CueKind.ofCode r.kind with
  | some .platformChange => some ({ p with platformChange := k }, false)
  | some .delay =>
    let a := clamp 1 60 r.a
    let b := clamp 1 60 r.b
    let c := clamp 2 60 r.c
    let d := clamp 0 255 r.d
    some ({ p with delay := k, delayThreshold := a, delayStep := b, delayPeriod := c, delayRepeats := d },
      a != r.a || b != r.b || c != r.c || d != r.d)
  | some .approach =>
    let a := clamp 1 15 r.a
    let b := clamp 0 600 r.b
    some ({ p with approach := k, approachLead := a, approachDelay := b }, a != r.a || b != r.b)
  | some .boarding => some ({ p with boarding := k }, false)
  | some .cancellation => some ({ p with cancellation := k }, false)
  | some .notice => some ({ p with notice := k }, false)
  | some .custom => none
  | none => none

/-- POLICY_SET (R145). -/
def World.policySet (r : PolicyReq) (_ : Env) (w : World) : Verdict World :=
  match w.cuePolicy.given r with
  | none => refuse .outOfRange
  | some (p, adjusted) => if 3 < r.priority then refuse .outOfRange else .take adjusted .empty { w with cuePolicy := p }

/-- ZONE_MAP_SET (R146). -/
def World.zoneMapSet (platforms : List Zones) (concourse : Zones) (_ : Env) (w : World) : Verdict World :=
  if platforms.length = 48 then taken { w with zoneMap := platforms, concourse } else refuse .malformed

/-- R154, check 2, but for the kind and the mode. -/
def cuePutBad (r : CuePutReq) (kind : CueKind) (mode : CueMode) : Bool :=
  r.subject == 0 || r.zones == 0#8 || decide (3 < r.priority) ||
    (mode.isTriggered && !(decide (1 ≤ r.line) && decide (r.line ≤ 12))) ||
    (mode == .anchored && (!kind.ofService || !(decide (1 ≤ r.leadMin) && decide (r.leadMin ≤ 15))))

/-- R154, check 3: the subject is in its table. -/
def World.hasSubject (w : World) (kind : CueKind) (subject : Nat) : Bool :=
  match kind with
  | .notice => (w.notice subject).isSome
  | .custom => (w.text subject).isSome
  | _ => (w.service subject).isSome

/-- R154: the host cue a taken CUE_PUT makes, and whether a clamp acted. -/
def World.hostCue (w : World) (r : CuePutReq) (kind : CueKind) (mode : CueMode) : Cue × Bool :=
  let delay := clamp 0 600 r.delayS
  let period := clamp 30 3600 r.periodS
  let prev := (w.service r.subject).bind fun x => x.prev.map (·.1)
  ({ Cue.draft .host kind r.subject mode r.priority with
      line := orNone mode.isTriggered r.line
      delayS := orNone mode.isTriggered delay
      periodS := orNone mode.isPeriodic period
      repeatsLeft := orNone mode.isPeriodic r.repeats
      leadMin := orNone (mode == .anchored) r.leadMin
      zones := r.zones
      oldPlatform := if kind == .platformChange then prev else none },
    (mode.isTriggered && delay != r.delayS) || (mode.isPeriodic && period != r.periodS))

/-- CUE_PUT (R154). -/
def World.cuePut (r : CuePutReq) (e : Env) (w : World) : Verdict World :=
  match CueKind.ofCode r.kind, CueMode.ofCode r.mode with
  | some kind, some mode =>
    if cuePutBad r kind mode then refuse .outOfRange
    else if !w.hasSubject kind r.subject then refuse .notFound
    else if (w.cueOf kind r.subject).isSome then refuse .conflict
    else match w.freeSlot with
      | none => refuse .tableFull
      | some slot =>
        let (c, adjusted) := w.hostCue r kind mode
        .take adjusted (.handle w.handleToGive) (w.seat slot c e)
  | _, _ => refuse .outOfRange

/-- CUE_CANCEL (R155). -/
def World.cueCancel (handle : Nat) (e : Env) (w : World) : Verdict World :=
  if handle = 0 then refuse .outOfRange
  else match w.cue handle with
    | none => refuse .notFound
    | some c => taken (w.leave .withdrawnHostCancel c e)

end Sys2Proof.Machine
end

