-- ==== Sys2Proof/Machine/Lifecycle.lean ====
section
/-! DEFINITION. Machine/Lifecycle.lean: the evaluation of one service record by the Lifecycle Sequencer (R61 to R67): a record, the
policy and the present time give the record as evaluated and the reason it retires for, if it does. -/

namespace Sys2Proof.Machine

/-- R59: the lead of a record in minutes. -/
def Service.lead (r : Service) (p : Lifecycle) : Nat := if r.boardLead = 0 then p.boardLead else r.boardLead

/-- R67: a mark that is absent, or whose age is negative, becomes the present station time. -/
def Env.mark (e : Env) : Option Nat → Option Nat
  | none => some e.timeMs
  | some m => if e.age m < 0 then some e.timeMs else some m

/-- R61, step 1. -/
def Service.marks (e : Env) (r : Service) : Service :=
  { r with
    departedMs := if r.state == .departed then e.mark r.departedMs else r.departedMs
    changeMs := if r.attention then e.mark r.changeMs else r.changeMs }

/-- R62: one turn of the transition table. -/
def Service.turn (p : Lifecycle) (e : Env) (r : Service) : Service :=
  let left := e.timeTo r.effSm
  match r.state with
  | .planned =>
    if r.platform ≠ 0 ∧ left ≤ (r.lead p * 60000 : Nat) then { r with state := .boarding } else r
  | .boarding =>
    if r.platform = 0 then { r with state := .planned }
    else if left ≤ (p.closeLead * 1000 : Nat) then { r with state := .closing } else r
  | .closing =>
    if r.platform = 0 then { r with state := .planned }
    else if (p.closeLead * 1000 : Nat) < left then { r with state := .boarding } else r
  | .departed => r
  | .cancelled => r

/-- R61, step 2: "no evaluation takes more than two turns" (R62). -/
def Service.transitions (p : Lifecycle) (e : Env) (r : Service) : Service := (r.turn p e).turn p e

/-- R63: the `overdue` flag. -/
def Service.overdueNow (e : Env) (r : Service) : Bool :=
  let left := e.timeTo r.effSm
  if r.state.terminal then false
  else if left ≤ -60000 then true
  else if 0 < left then false
  else r.overdue

/-- R64: the change has been shown long enough and its announcement is not waited on. -/
def Service.changeTold (p : Lifecycle) (e : Env) (r : Service) : Bool :=
  (match r.changeMs with
    | some m => decide ((p.changeDisplay * 60000 : Nat) ≤ e.age m)
    | none => false) &&
    match r.changeCue with
    | none => true
    | some c => c.heard

/-- R66. -/
def Service.retires (p : Lifecycle) (e : Env) (r : Service) : Option RetireReason :=
  let left := e.timeTo r.effSm
  match r.state with
  | .departed =>
    match r.departedMs with
    | some m => orNone (decide ((p.departedHold * 1000 : Nat) ≤ e.age m)) .departed
    | none => none
  | .cancelled => orNone (decide (left ≤ -(p.cancelHold * 60000 : Nat))) .cancelled
  | _ => orNone (r.overdue && decide (left ≤ -(p.abandon * 60000 : Nat))) .abandoned

/-- R61, steps 1 to 4. -/
def Service.evaluated (p : Lifecycle) (e : Env) (r : Service) : Service :=
  let r := (r.marks e).transitions p e
  let r := { r with overdue := r.overdueNow e }
  { r with attention := r.attention && !r.changeTold p e }

/-- R61: one evaluation; none while validity is UNSET (R60). -/
def Service.evaluate (p : Lifecycle) (e : Env) (r : Service) : Service × Option RetireReason :=
  if e.valid then
    let r := r.evaluated p e
    (r, r.retires p e)
  else (r, none)

end Sys2Proof.Machine
end

