-- ==== Sys2Proof/Machine/Table.lean ====
section
/-! DEFINITION. Machine/Table.lean: the Service Table, the Text Pool and the Notice List (chapters 3 and 4): how a cause advances
table_seq, stamps, retires and is handed on; the host's requests; dispatch; the day roll; and the deciding of notices. -/

namespace Sys2Proof.Machine

/-! ## Causes of the Service Table (R38, R39, R50) -/

/-- R38: the displayed fields of two states of one record agree. -/
def Service.sameShown (a b : Service) : Bool :=
  a.schedHm == b.schedHm && a.delay == b.delay && a.platform == b.platform && a.side == b.side && a.prev == b.prev &&
    a.state == b.state && a.overdue == b.overdue && a.attention == b.attention && a.dest == b.dest && a.vias == b.vias &&
    a.remark == b.remark && a.operator == b.operator

/-- The cause inserted the record or changed a displayed field of it. -/
def SvcChange.shows (d : SvcChange) : Bool :=
  match d.before with
  | none => true
  | some b => !b.sameShown d.after

/-- The cause changes the departure picture through this record. -/
def SvcChange.tells (d : SvcChange) : Bool := d.shows || d.retired.isSome

/-- R57: the references of the record as it was are given back, those of the record as it is are counted. -/
def World.recount (d : SvcChange) (w : World) : World :=
  let w := match d.before with
    | some b => w.release b.refs
    | none => w
  w.claim d.after.refs

/-- Put the record as the cause left it in its place (R35). -/
def World.applyChange (d : SvcChange) (w : World) : World := (w.recount d).storeService d.after

/-- R74, R75: a notice leaves the list; with a reason where a NOTICE_ENDED report tells it. -/
def World.removeNotice (reason : Option NoticeEnd) (n : Notice) (e : Env) (w : World) : World :=
  let w := { w with notices := w.notices.filter (·.id != n.id) }.release [n.text]
  let w := match reason with
    | some why => w.report (.noticeEnded n.id why e.reportMs)
    | none => w
  w.subjectGone (Cue.ofNotice n.id) e

/-- R50, R75, R153: one record leaves the table, its notices and pending cues with it. SERVICE_RETIRED is placed first, then the
notices leave, then the cues (DESIGN CHOICE, notes/assumptions/39.md). -/
def World.retire (r : Service) (reason : RetireReason) (e : Env) (w : World) : World :=
  let w := { w with services := dropService r.code w.services }.release r.refs
  let w := w.report (.serviceRetired r.code reason r.state w.tableSeq e.reportMs)
  let w := (w.notices.filter (·.scope == .service r.code)).foldl (fun w n => w.removeNotice (some .subjectRetired) n e) w
  w.subjectGone (Cue.about r.code) e

/-- The reason a cause gives for retiring a code. -/
def retiredFor (ds : List SvcChange) (code : Nat) : Option RetireReason :=
  (ds.find? (·.after.code == code)).bind (·.retired)

/-- R50: the retirements of one cause, in table order. -/
def World.retireAll (ds : List SvcChange) (e : Env) (w : World) : World :=
  w.services.foldl (init := w) fun w r =>
    match retiredFor ds r.code with
    | some reason => w.retire r reason e
    | none => w

/-- R38, R39: one cause but for its composition: table_seq advances once where the picture changes, each record whose displayed
fields changed is stamped and handed to the Cue Scheduler, and the retired ones leave (DEDUCED, notes/assumptions/18.md). -/
def World.cause (ds : List SvcChange) (e : Env) (w : World) : World :=
  if ds.any (·.tells) then
    let seq := w.tableSeq + 1
    let ds := ds.map fun d => if d.shows then { d with after := { d.after with rev := seq } } else d
    let w := ds.foldl (fun w d => w.applyChange d) { w with tableSeq := seq }
    let w := (ds.filter (·.shows)).foldl (fun w d => w.serviceCues d e) w
    w.retireAll ds e
  else ds.foldl (fun w d => w.applyChange d) w

/-- R94: the windows composed for a cause of the Service Table; of the Notice List too where a retirement removed a notice. -/
def causeFilter (before after : World) : Filter :=
  if after.notices.length < before.notices.length then .notices else .services

/-- R39: one cause with its composition. -/
def World.handOn (ds : List SvcChange) (e : Env) (w : World) : World :=
  let after := w.cause ds e
  if ds.any (·.tells) then after.composed (causeFilter w after) false e else after

/-- R46: the cause takes the record from one platform to another; "platform change" in the sense of that rule. -/
def platformMoved (before : Option Service) (r : Service) : Bool :=
  match before with
  | some b => b.platform != 0 && r.platform != 0 && b.platform != r.platform
  | none => false

/-- The change that evaluating a record makes; `before` is the record before the cause. The cause of a platform change does not
clear the `attention` it has just set (R64) (DEDUCED, notes/assumptions/33.md). -/
def evaluation (p : Lifecycle) (e : Env) (before : Option Service) (r : Service) : SvcChange :=
  let (after, retired) := r.evaluate p e
  { before, after := if platformMoved before r then { after with attention := r.attention } else after, retired }

/-- R60: evaluate one record as a cause of its own. -/
def World.evaluateOne (code : Nat) (e : Env) (w : World) : World :=
  match w.service code with
  | some r => w.handOn [evaluation w.policy e (some r) r] e
  | none => w

/-- R65: `change_cue` of a record whose `change_cue` is the handle. -/
def World.changeNotice (code handle : Nat) (cue : Option ChangeCue) (e : Env) (w : World) : World :=
  match w.service code with
  | some r =>
    if (r.changeCue.map (·.handle)) == some handle then
      (w.storeService { r with changeCue := cue }).evaluateOne code e
    else w
  | none => w

/-- R65: the cue is DONE. -/
def World.changeHeard (code handle : Nat) (e : Env) (w : World) : World :=
  w.changeNotice code handle (some { handle, heard := true }) e

/-- R65: the cue ended other than DONE. -/
def World.changeEnded (code handle : Nat) (e : Env) (w : World) : World := w.changeNotice code handle none e

/-! ## Delays and platforms (R36, R37, R46) -/

/-- R37: a delay as given, and whether it is adjusted. -/
def takenDelay (n : Nat) : Delay × Bool :=
  if n ≤ 719 then (.minutes n, false) else if n = 65535 then (.indefinite, false) else (.minutes 719, true)

/-- R36: `sched_sm` of a scheduled time. -/
def schedSmOf (dayStart schedHm : Nat) (carried : Bool) : Int :=
  let x := ((schedHm : Int) - dayStart) % 1440
  if carried then x - 1440 else x

/-- A record is carried when its `sched_sm` is negative (3.1). -/
def Service.carried (r : Service) : Bool := decide (r.schedSm < 0)

/-- The present station time as a mark; absent while UNSET. -/
def Env.present (e : Env) : Option Nat := orNone e.valid e.timeMs

/-- R46: a new value of `platform` and `side`; a change or an unassignment makes `change_cue` absent (R65). -/
def Service.applyPlatform (platform : Nat) (side : Side) (e : Env) (r : Service) : Service :=
  if r.platform = 0 ∨ r.platform = platform then { r with platform, side }
  else if platform = 0 then { r with platform := 0, side := .none, attention := false, changeCue := none }
  else
    { r with
      platform, side
      prev := some (r.platform, r.side)
      changeMs := e.present
      attention := true
      changeCue := none }

/-- R40, R45: a platform and side outside their ranges. -/
def platformBad (platform side : Nat) : Bool :=
  decide (48 < platform) || match Side.ofCode side with
    | none => true
    | some s => s != .none && platform == 0

/-- A remark index, 0 for none. -/
def remarkOf (index : Nat) : Option Nat := if index = 0 then none else some index

/-- The remark names a stored text or none. -/
def World.remarkStored (w : World) (index : Nat) : Bool := index == 0 || (w.text index).isSome

/-! ## SERVICE_PUT (R40 to R42) -/

/-- R40, check 2. -/
def servicePutBad (r : ServicePutReq) : Bool :=
  r.code == 0 || decide (1439 < r.schedHm) || platformBad r.platform r.side || r.dest == 0 ||
    decide (6 < r.vias.length) || r.vias.any (· == 0) || decide (15 < r.operator)

/-- R40, check 3: every text the request names is stored. -/
def World.textsStored (w : World) (r : ServicePutReq) : Bool :=
  (w.text r.dest).isSome && r.vias.all (fun i => (w.text i).isSome) && w.remarkStored r.remark

/-- R41: the new record. -/
def newService (r : ServicePutReq) (side : Side) (e : Env) : Service :=
  let delay := (takenDelay r.delay).1
  let schedSm := schedSmOf e.dayStart r.schedHm false
  { code := r.code
    schedHm := r.schedHm
    schedSm
    delay
    effSm := schedSm + delay.count
    platform := r.platform
    side
    prev := none
    changeMs := none
    dest := r.dest
    vias := r.vias
    remark := remarkOf r.remark
    operator := r.operator
    boardLead := min 60 r.boardLead
    state := .planned
    overdue := false
    attention := false
    departedMs := none
    announced := none
    changeCue := none
    rev := 0#32 }

/-- R42: the record with the host's fields replaced. -/
def replacedService (r : ServicePutReq) (side : Side) (e : Env) (old : Service) : Service :=
  let delay := (takenDelay r.delay).1
  let schedSm := schedSmOf e.dayStart r.schedHm old.carried
  { old with
    schedHm := r.schedHm
    schedSm
    delay
    effSm := schedSm + delay.count
    dest := r.dest
    vias := r.vias
    remark := remarkOf r.remark
    operator := r.operator
    boardLead := min 60 r.boardLead }.applyPlatform r.platform side e

/-- The reply's `rev`: the new table_seq where a displayed field changed, else the record's own. -/
def SvcChange.replyRev (d : SvcChange) (w : World) : Seq :=
  if d.shows then w.tableSeq else d.after.rev

/-- R41: insert the record, and retire another for space in the same cause. -/
def World.insertNew (r : ServicePutReq) (side : Side) (adjusted : Bool) (e : Env) (w : World) : Verdict World :=
  let new := newService r side e
  if e.valid && decide (e.timeTo new.effSm < -1800000) then refuse .past
  else
    let d := evaluation w.policy e none new
    let take (ds : List SvcChange) : Verdict World :=
      let after := w.handOn ds e
      .take adjusted (.servicePut after.tableSeq true) after
    if w.services.length < Config.maxServices then take [d]
    else match w.services.find? (·.state == .departed) with
      | some gone => take [{ before := some gone, after := gone, retired := some .earlyForSpace }, d]
      | none => refuse .tableFull

/-- R42: replace the host's fields of a record. -/
def World.replaceOld (r : ServicePutReq) (side : Side) (adjusted : Bool) (old : Service) (e : Env) (w : World) :
    Verdict World :=
  let new := replacedService r side e old
  if old.state == .departed then refuse .wrongState
  else if old.carried && decide (new.effSm < 0) then refuse .outOfRange
  else
    let d := evaluation w.policy e (some old) new
    let after := w.handOn [d] e
    .take adjusted (.servicePut (d.replyRev after) false) after

/-- SERVICE_PUT (R40). -/
def World.servicePut (r : ServicePutReq) (e : Env) (w : World) : Verdict World :=
  match Side.ofCode r.side with
  | none => refuse .outOfRange
  | some side =>
    if servicePutBad r then refuse .outOfRange
    else if !w.textsStored r then refuse .notFound
    else
      let adjusted := (takenDelay r.delay).2 || decide (60 < r.boardLead)
      match w.service r.code with
      | none => w.insertNew r side adjusted e
      | some old => w.replaceOld r side adjusted old e

/-! ## SERVICE_AMEND (R43 to R48) -/

/-- R48: the state targets, numbered in the order of the rule (DEDUCED, notes/assumptions/15.md). -/
inductive Target where
  | departed
  | cancelled
  | reinstate
  deriving DecidableEq, Repr

def Target.ofCode : Nat → Option Target
  | 0 => some .departed
  | 1 => some .cancelled
  | 2 => some .reinstate
  | _ => none

/-- R48: the state a target is taken from. -/
def Target.takenFrom (t : Target) (s : SvcState) : Bool :=
  match t with
  | .reinstate => s == .cancelled
  | _ => !s.terminal

/-- R43, check 1. -/
def amendBad (r : AmendReq) : Bool :=
  r.code == 0 ||
    (match r.platform with
      | none => false
      | some (p, s) => platformBad p s) ||
    match r.target with
    | none => false
    | some t => (Target.ofCode t).isNone

/-- R44: the delay part. -/
def Service.applyDelay (n : Nat) (r : Service) : Service :=
  let delay := (takenDelay n).1
  { r with delay, effSm := r.schedSm + delay.count }

/-- R48: the state part. -/
def Service.applyTarget (t : Target) (e : Env) (r : Service) : Service :=
  match t with
  | .departed => { r with state := .departed, departedMs := e.present }
  | .cancelled => { r with state := .cancelled }
  | .reinstate => { r with state := .planned }

/-- R43: the parts applied in their order. -/
def amended (r : AmendReq) (e : Env) (old : Service) : Service :=
  let x := match r.delay with
    | some n => old.applyDelay n
    | none => old
  let x := match r.platform with
    | some (p, s) => x.applyPlatform p ((Side.ofCode s).getD .none) e
    | none => x
  let x := match r.remark with
    | some i => { x with remark := remarkOf i }
    | none => x
  match r.target.bind Target.ofCode with
  | some t => x.applyTarget t e
  | none => x

/-- R44: the delay part is refused for a carried record. -/
def amendDelayBad (r : AmendReq) (old : Service) : Bool :=
  match r.delay with
  | some n => old.carried && decide ((old.applyDelay n).effSm < 0)
  | none => false

/-- R48: the state part is refused. -/
def amendTargetBad (r : AmendReq) (old : Service) : Bool :=
  match r.target.bind Target.ofCode with
  | some t => !t.takenFrom old.state
  | none => false

/-- R37: the delay part is adjusted. -/
def amendAdjusted (r : AmendReq) : Bool :=
  match r.delay with
  | some n => (takenDelay n).2
  | none => false

/-- R43: a taken amendment; where no part changes the record nothing is evaluated (DEDUCED, notes/assumptions/18.md). -/
def World.applyAmend (r : AmendReq) (old : Service) (e : Env) (w : World) : Verdict World :=
  let new := amended r e old
  if new == old then .take (amendAdjusted r) (.rev old.rev) w
  else
    let d := evaluation w.policy e (some old) new
    let after := w.handOn [d] e
    .take (amendAdjusted r) (.rev (d.replyRev after)) after

/-- SERVICE_AMEND (R43). -/
def World.serviceAmend (r : AmendReq) (e : Env) (w : World) : Verdict World :=
  if amendBad r then refuse .outOfRange
  else match w.service r.code with
    | none => refuse .notFound
    | some old =>
      if !w.remarkStored (r.remark.getD 0) then refuse .notFound
      else if old.state == .departed then refuse .wrongState
      else if amendDelayBad r old then refuse .outOfRange
      else if amendTargetBad r old then refuse .wrongState
      else w.applyAmend r old e

/-- SERVICE_DROP (R49). -/
def World.serviceDrop (code : Nat) (e : Env) (w : World) : Verdict World :=
  if code = 0 then refuse .outOfRange
  else match w.service code with
    | none => refuse .notFound
    | some r => taken (w.handOn [{ before := some r, after := r, retired := some .dropped }] e)

/-! ## The Text Pool (R53 to R56) -/

/-- R53: cells of a text. -/
def cellsOf (chars : Chars) : Nat := (chars.length + 7) / 8

/-- R54: the index, the length or a character is out of range. -/
def textBad (index : Nat) (chars : Chars) : Bool :=
  index == 0 || chars.isEmpty || decide (64 < chars.length) ||
    chars.any fun c => decide (c.toNat < 0x20) || decide (0xFE < c.toNat)

/-- R54: store a new text. -/
def World.storeText (index : Nat) (chars : Chars) (e : Env) (w : World) : World :=
  let seq := w.tableSeq + 1
  let t : StoredText := { index, chars, cells := cellsOf chars, uses := 0, rev := seq }
  { w with tableSeq := seq, texts := insertText t w.texts, freeCells := w.freeCells - t.cells }.composed .every false e

/-- R55: the records and notices that name a replaced text are stamped and told to the Cue Scheduler. -/
def World.stampReferrers (index : Nat) (seq : Seq) (e : Env) (w : World) : World :=
  let hit (r : Service) : Bool := r.refs.contains index
  let changed := (w.services.filter hit).map fun r =>
    ({ before := some r, after := { r with rev := seq }, retired := none } : SvcChange)
  let named := (w.notices.filter (·.text == index)).map (·.id)
  let w := { w with
    services := updateWhere hit (fun r => { r with rev := seq }) w.services
    notices := updateWhere (·.text == index) (fun n => { n with rev := seq }) w.notices }
  let w := changed.foldl (fun w d => w.serviceCues d e) w
  let w := named.foldl (fun w id => w.raise (Cue.ofNotice id) seq) w
  w.raise (fun c => c.kind == .custom && c.subject == index) seq

/-- R55: replace a text by other characters. -/
def World.replaceText (old : StoredText) (chars : Chars) (e : Env) (w : World) : World :=
  let seq := w.tableSeq + 1
  let t : StoredText := { old with chars, cells := cellsOf chars, rev := seq }
  let w := { w with
    tableSeq := seq
    texts := insertText t w.texts
    freeCells := w.freeCells + old.cells - t.cells }
  (w.stampReferrers old.index seq e).composed .every false e

/-- TEXT_PUT (R54, R55). -/
def World.textPut (index : Nat) (chars : Chars) (e : Env) (w : World) : Verdict World :=
  if textBad index chars then refuse .outOfRange
  else match w.text index with
    | none =>
      if w.freeCells < cellsOf chars then refuse .poolFull else taken (w.storeText index chars e)
    | some old =>
      if w.freeCells + old.cells < cellsOf chars then refuse .poolFull
      else if old.chars == chars then taken w
      else
        let after := w.replaceText old chars e
        .take false (.rev after.tableSeq) after

/-- TEXT_DROP (R56). -/
def World.textDrop (index : Nat) (e : Env) (w : World) : Verdict World :=
  if index = 0 then refuse .outOfRange
  else match w.text index with
    | none => refuse .notFound
    | some t =>
      if t.uses ≠ 0 then .refuse .inUse (.useCount t.uses)
      else
        taken
          ({ w with
            tableSeq := w.tableSeq + 1
            texts := w.texts.filter (·.index != index)
            freeCells := w.freeCells + t.cells }.composed .every false e)

/-! ## LIFECYCLE_SET (R59) -/

/-- R59: the values in their ranges. -/
def lifecycleOf (r : LifecycleReq) : Lifecycle where
  boardLead := clamp 1 60 r.boardLead
  closeLead := clamp 0 300 r.closeLead
  departedHold := clamp 30 600 r.departedHold
  cancelHold := clamp 0 60 r.cancelHold
  abandon := clamp 30 240 r.abandon
  changeDisplay := clamp 0 30 r.changeDisplay

/-- R59: a clamp acted. -/
def lifecycleAdjusted (r : LifecycleReq) : Bool :=
  let p := lifecycleOf r
  p.boardLead != r.boardLead || p.closeLead != r.closeLead || p.departedHold != r.departedHold ||
    p.cancelHold != r.cancelHold || p.abandon != r.abandon || p.changeDisplay != r.changeDisplay

/-- LIFECYCLE_SET: with a changed value every record is evaluated in the request's one cause (R59). -/
def World.lifecycleSet (r : LifecycleReq) (e : Env) (w : World) : Verdict World :=
  let p := lifecycleOf r
  if p == w.policy then .take (lifecycleAdjusted r) .empty w
  else
    let w := { w with policy := p }
    .take (lifecycleAdjusted r) .empty (w.handOn (w.services.map fun x => evaluation p e (some x) x) e)

/-! ## Dispatch (R68) -/

/-- R68: a qualified edge of role DISPATCH on a line, with its timestamp and the station time it carries. -/
def World.dispatch (platform line stamp : Nat) (carried : Option Nat) (e : Env) (w : World) : World :=
  match w.services.find? fun r => r.platform == platform && r.state.atPlatform with
  | some r =>
    let gone := { r with state := .departed, departedMs := carried.map (· / 1000) }
    w.handOn [evaluation w.policy e (some r) gone] e
  | none => w.report (.dispatchUnmatched platform line (stamp / 1000) ((carried.map (· / 1000)).getD 0))

/-! ## The day roll (R69) -/

/-- R69: what the roll does to one record. -/
def rolled (r : Service) : SvcChange :=
  if r.effSm < 1440 then { before := some r, after := r, retired := some .dayRoll }
  else { before := some r, after := { r with schedSm := r.schedSm - 1440, effSm := r.effSm - 1440 }, retired := none }

/-- R69: the day roll on the Service Table, one cause, composed without the minute mark where it retires (R94). -/
def World.rollServices (e : Env) (w : World) : World := w.handOn (w.services.map rolled) e

/-! ## The Notice List (R71 to R75) -/

/-- R74: the end of a notice has come. -/
def Notice.ended (nms : Int) (n : Notice) : Bool :=
  match n.endOff with
  | some x => decide (x ≤ nms)
  | none => false

/-- R74: the start of a notice has come. -/
def Notice.begun (nms : Int) (n : Notice) : Bool :=
  match n.startOff with
  | some x => decide (x ≤ nms)
  | none => true

/-- R74: `active` as decided on a put; while UNSET a notice without a start is active. -/
def Notice.activeAt (e : Env) (n : Notice) : Bool := if e.valid then n.begun e.nms else n.startOff.isNone

/-- R74: the offsets fall by a day at the roll. -/
def Notice.lowered (n : Notice) : Notice :=
  { n with startOff := n.startOff.map (· - Config.dayMs), endOff := n.endOff.map (· - Config.dayMs) }

/-- R74: decide every notice, but for the composition; whether anything changed. The ended ones leave first and then the cues of
those that turned are made or changed, each in ascending id (DESIGN CHOICE, notes/assumptions/41.md). -/
def World.decideNotices (e : Env) (w : World) : World × Bool :=
  let past := w.notices.filter (·.ended e.nms)
  let turned := w.notices.filter fun n => !n.ended e.nms && n.begun e.nms != n.active
  if !e.valid || (past.isEmpty && turned.isEmpty) then (w, false)
  else
    let seq := w.tableSeq + 1
    let decided (n : Notice) : Notice := { n with active := n.begun e.nms, rev := seq }
    let w := { w with
      tableSeq := seq
      notices := updateWhere (fun n => !n.ended e.nms && n.begun e.nms != n.active) decided w.notices }
    let w := past.foldl (fun w n => w.removeNotice (some .expired) n e) w
    let w := turned.foldl (init := w) fun w n =>
      (w.raise (Cue.ofNotice n.id) seq).noticeCues (some n) (decided n) false e
    (w, true)

/-- R94: a cause of the Notice List at a minute event, a step event or a day roll is composed with the minute mark. -/
def World.noticeEvent (e : Env) (w : World) : World :=
  let (w, changed) := w.decideNotices e
  if changed then w.composed .notices true e else w

/-- R73, check 2. -/
def noticePutBad (r : NoticePutReq) : Bool :=
  r.id == 0 || r.text == 0 ||
    (match r.scope with
      | .wall => false
      | .platforms m => m == 0#48
      | .service code => code == 0) ||
    decide (3 < r.priority) || decide (86399999 < r.startMs.getD 0) || decide (86399999 < r.endMs.getD 0)

/-- R73, check 3: the text and the scope's service are there. -/
def World.noticeFinds (w : World) (r : NoticePutReq) : Bool :=
  (w.text r.text).isSome &&
    match r.scope with
    | .service code => (w.service code).isSome
    | _ => true

/-- R72: a time of the clock day in service milliseconds. -/
def offsetOf (dayStart ms : Nat) : Int := ((ms : Int) - (dayStart * 60000 : Nat)) % (Config.dayMs : Int)

/-- R72: `end_off`. -/
def endOffOf (r : NoticePutReq) (e : Env) (ms : Nat) : Int :=
  let x := offsetOf e.dayStart ms
  let reference : Option Int := match r.startMs with
    | some s => some (offsetOf e.dayStart s)
    | none => orNone e.valid e.nms
  match reference with
  | some y => if x ≤ y then x + Config.dayMs else x
  | none => x

/-- R73: an announcement period: 0, or clamped into 2..60. -/
def noticePeriod (n : Nat) : Nat := if n = 0 then 0 else clamp 2 60 n

/-- R73: the notice that a put makes. -/
def newNotice (r : NoticePutReq) (rev : Seq) (e : Env) : Notice :=
  let n : Notice :=
    { id := r.id
      text := r.text
      scope := r.scope
      priority := r.priority
      startMs := r.startMs
      endMs := r.endMs
      period := noticePeriod r.period
      startOff := r.startMs.map (offsetOf e.dayStart)
      endOff := r.endMs.map (endOffOf r e)
      active := false
      rev }
  { n with active := n.activeAt e }

/-- R73: a replacement is identical to the notice: every field the host gives agrees (DEDUCED, notes/assumptions/19.md). -/
def Notice.sameGiven (a b : Notice) : Bool :=
  a.text == b.text && a.scope == b.scope && a.priority == b.priority && a.startMs == b.startMs && a.endMs == b.endMs &&
    a.period == b.period

/-- R71: the displayed fields agree. -/
def Notice.sameShown (a b : Notice) : Bool :=
  a.text == b.text && a.scope == b.scope && a.priority == b.priority && a.active == b.active

/-- R73: put the notice, in place of `old` where there is one. -/
def World.putNotice (old : Option Notice) (n : Notice) (e : Env) (w : World) : World :=
  let shows := match old with
    | some o => !o.sameShown n
    | none => true
  let seq := if shows then w.tableSeq + 1 else w.tableSeq
  let n := if shows then { n with rev := seq } else n
  let w := match old with
    | some o => w.release [o.text]
    | none => w
  let w := { w.claim [n.text] with tableSeq := seq, notices := insertNotice n w.notices }
  let w := if shows then w.raise (Cue.ofNotice n.id) seq else w
  (w.noticeCues old n true e).composed .notices false e

/-- NOTICE_PUT (R73). -/
def World.noticePut (r : NoticePutReq) (e : Env) (w : World) : Verdict World :=
  let old := w.notice r.id
  let n := newNotice r ((old.map (·.rev)).getD 0#32) e
  let adjusted := noticePeriod r.period != r.period
  if noticePutBad r then refuse .outOfRange
  else if !w.noticeFinds r then refuse .notFound
  else if r.startMs.isSome && r.startMs == r.endMs then refuse .conflict
  else if e.valid && n.ended e.nms then refuse .past
  else match old with
    | none =>
      if Config.maxNotices ≤ w.notices.length then refuse .tableFull
      else .take adjusted (.rev (w.tableSeq + 1)) (w.putNotice none n e)
    | some o =>
      if o.sameGiven n then .take adjusted (.rev o.rev) w
      else .take adjusted (.rev (if o.sameShown n then o.rev else w.tableSeq + 1)) (w.putNotice (some o) n e)

/-- NOTICE_DROP (R75). -/
def World.noticeDrop (id : Nat) (e : Env) (w : World) : Verdict World :=
  if id = 0 then refuse .outOfRange
  else match w.notice id with
    | none => refuse .notFound
    | some n => taken (({ w with tableSeq := w.tableSeq + 1 }.removeNotice none n e).composed .notices false e)

/-! ## RESTART (R51, R53, R76) -/

/-- R51, R53, R76: the Service Table, the Text Pool and the Notice List are emptied. -/
def World.emptyTables (w : World) : World :=
  { w with services := [], tableSeq := 0, texts := [], freeCells := Config.poolCells, notices := [] }

end Sys2Proof.Machine
end

