-- ==== Sys2Proof/Machine/Announce.lean ====
section
/-! DEFINITION. Machine/Announce.lean: cue release and the Announcement Link (chapter 9): the release check, the arbiter with aging
and preemption, the exchange with the announcement unit, the outcomes of plays, availability and AU_SET. -/

namespace Sys2Proof.Machine

/-! ## The end of a play in the cue table (R144, R153) -/

/-- R144: a PERIODIC NOTICE cue whose notice has no period. One of TRIGGERED_PERIODIC is armed again (DESIGN CHOICE,
notes/assumptions/37.md). -/
def World.periodGone (w : World) (c : Cue) : Bool :=
  c.kind == .notice && c.mode == .periodic && ((w.notice c.subject).map (·.period)) == some 0

/-- R144: a periodic cue waits its period, measured from the end of the play. -/
def Cue.rearmed (c : Cue) (e : Env) (repeats : Option Nat) : Cue :=
  { c with state := .armed, timer := some (e.inSec (c.periodS.getD 0)), queuedAt := none, repeatsLeft := repeats }

/-- R144: a play ended DONE or FAILED. -/
def World.cueOver (handle : Nat) (e : Env) (w : World) : World :=
  match w.cue handle with
  | none => w
  | some c =>
    if c.subjectGone || w.periodGone c || !c.mode.isPeriodic || c.repeatsLeft == some 1 then w.dropCue c.slot
    else w.setCue (c.rearmed e (c.repeatsLeft.map (· - 1)))

/-- The whole minutes that have passed since a cue was queued: a of R159. -/
def Cue.age (now : Nat) (c : Cue) : Nat := (now - c.queuedAt.getD now) / Config.agingUs

/-- R144, R167: a play was stopped for preemption. A cue preempted a second time is withdrawn, its subject gone or not; one whose
subject or period has gone leaves with no further report (DESIGN CHOICE, notes/assumptions/32.md). A cue that is queued again
keeps the age it had earned (R159). -/
def World.cuePreempted (handle : Nat) (e : Env) (w : World) : World :=
  match w.cue handle with
  | none => w
  | some c =>
    if !c.mode.isPeriodic && c.preempted then
      (((w.dropCue c.slot).cueReport .withdrawnPreemptedTwice c e)).tellEnded c.origin c.kind c.subject c.handle
    else if c.subjectGone || w.periodGone c then (w.dropCue c.slot).tellEnded c.origin c.kind c.subject c.handle
    else if c.mode.isPeriodic then w.setCue (c.rearmed e c.repeatsLeft)
    else (w.setCue { c with preempted := true, state := .queued, aged := c.age e.now }).push .arbiter

/-! ## Play channels (R157) -/

/-- CUE_STATE about a play (R162, R166, R167). -/
def World.playReport (event : CueEvent) (p : Play) (e : Env) (w : World) : World :=
  w.report (.cueState p.handle event p.origin p.kind p.subject e.nowMs)

/-- A channel becomes FREE, and the arbiter runs (R158). -/
def World.freeChannel (i : Fin 4) (w : World) : World := (w.setPlay i PlayChannel.reset).push .arbiter

/-- R157: the union of the zones of every channel that is not FREE. -/
def AnnLink.occupied (a : AnnLink) : Zones :=
  allFour.foldl (init := 0#8) fun z i =>
    match a.channels[i].play with
    | some p => z ||| p.zones
    | none => z

/-- A play ends FAILED (R162, R163, R167). -/
def World.playFailed (event : CueEvent) (p : Play) (e : Env) (w : World) : World :=
  let w := w.cueOver p.handle e
  (w.playReport event p e).tellEnded p.origin p.kind p.subject p.handle

/-- R166: the record's `announced_delay` becomes the delay the unit was asked to speak. The record is the one that stands under the
play's subject, one stored again since the play began included (DESIGN CHOICE, notes/assumptions/49.md). -/
def World.delayHeard (p : Play) (w : World) : World :=
  if p.kind == .delay then
    { w with services := updateWhere (·.code == p.subject) (fun r => { r with announced := p.startedDelay }) w.services }
  else w

/-- R166: a play ends DONE. -/
def World.playDone (p : Play) (e : Env) (w : World) : World :=
  let w := w.delayHeard p
  let w := w.cueOver p.handle e
  let w := if p.origin == .auto && p.kind == .platformChange then w.changeHeard p.subject p.handle e else w
  w.playReport .done p e

/-! ## The release check (R143) -/

/-- R143: the cue is valid. -/
def World.cueValid (w : World) (c : Cue) : Bool :=
  match c.kind with
  | .notice => ((w.notice c.subject).map (·.active)) == some true
  | .custom => (w.text c.subject).isSome
  | kind =>
    match w.service c.subject with
    | none => false
    | some r =>
      match kind with
      | .platformChange => !r.state.terminal && r.platform != 0 && c.oldPlatform != some r.platform
      | .delay => !r.state.terminal && w.cuePolicy.announceable r.delay
      | .approach => r.state.atPlatform
      | .boarding => r.state == .boarding
      | _ => r.state == .cancelled

/-- What the release check comes to. -/
inductive Release where
  | withdrawn
  | stale (rev : Seq)
  | starts
  deriving DecidableEq, Repr

/-- R143. -/
def World.releaseCheck (w : World) (c : Cue) : Release :=
  if !w.cueValid c then .withdrawn
  else match w.subjectRev c with
    | some rev => if later rev c.seq then .stale rev else .starts
    | none => .starts

/-! ## The arbiter (R158 to R160) -/

/-- R159: the effective priority. -/
def Cue.effective (now : Nat) (c : Cue) : Nat :=
  if c.priority ≤ 1 then c.priority else max 1 (c.priority - c.age now)

/-- R158, step 3: a wins before b. -/
def winsBefore (now : Nat) (a b : Cue) : Bool :=
  let pa := a.effective now
  let pb := b.effective now
  let qa := a.queuedAt.getD now
  let qb := b.queuedAt.getD now
  decide (pa < pb) || (pa == pb && (decide (qa < qb) || (qa == qb && decide (a.slot < b.slot))))

/-- Put an entry at its place among ordered ones. -/
def insertBy {α : Type} (before : α → α → Bool) (x : α) : List α → List α
  | [] => [x]
  | y :: rest => if before x y then x :: y :: rest else y :: insertBy before x rest

/-- The entries in their order. -/
def sortBy {α : Type} (before : α → α → Bool) : List α → List α
  | [] => []
  | x :: rest => insertBy before x (sortBy before rest)

/-- The QUEUED cues in winner order. -/
def World.contest (w : World) (e : Env) : List Cue := sortBy (winsBefore e.now) (w.cues.filter (·.state == .queued))

/-- R158: the cue shares no zone with the occupied zones. -/
def World.eligible (w : World) (c : Cue) : Bool := !overlap c.zones w.au.occupied

/-- A channel is FREE. -/
def World.freePlay (w : World) : Option (Fin 4) := allFour.find? fun i => w.au.channels[i].phase == .free

/-- R160: the channels whose zones share a zone with the cue's, in ascending order (DESIGN CHOICE, notes/assumptions/57.md). -/
def World.overlapping (w : World) (c : Cue) : List (Fin 4) :=
  allFour.filter fun i => match w.au.channels[i].play with
    | some p => overlap c.zones p.zones
    | none => false

/-- R160: the channel holds a play in STARTING or PLAYING of priority 2 or 3. -/
def PlayChannel.yields (x : PlayChannel) : Bool :=
  (x.phase == .starting || x.phase == .playing) && match x.play with
    | some p => decide (2 ≤ p.priority)
    | none => false

/-- R160: the test of one priority-0 cue. -/
def World.mayPreempt (w : World) (c : Cue) : Bool :=
  let near := w.overlapping c
  c.priority == 0 && !w.eligible c &&
    near.all (fun i => w.au.channels[i].phase == .stopping || w.au.channels[i].yields) &&
    near.any fun i => w.au.channels[i].yields

/-- R160, R164: one play is stopped for preemption; its outcome is handed on at this moment. -/
def World.preemptPlay (i : Fin 4) (e : Env) (w : World) : World :=
  if w.au.channels[i].yields then
    match w.au.channels[i].play with
    | some p => ((w.stopChannel i e).playReport .preempted p e).cuePreempted p.handle e
    | none => w
  else w

/-- R160: preemption, in winner order. -/
def World.preempt (e : Env) (w : World) : World :=
  (w.contest e).foldl (init := w) fun w c =>
    if w.mayPreempt c then (w.overlapping c).foldl (fun w i => w.preemptPlay i e) w else w

/-- R162: the fields composed at the moment of START from the subject as it stands. The expected time of a DELAY is that of
`eff_sm`, with a delay of INDEFINITE too (DESIGN CHOICE, notes/assumptions/44.md). -/
def World.startFields (w : World) (c : Cue) (started : Option Delay) (dayStart : Nat) : StartFields :=
  match c.kind with
  | .notice => .text (match w.notice c.subject with
      | some n => w.chars n.text
      | none => [])
  | .custom => .text (w.chars c.subject)
  | kind =>
    match w.service c.subject with
    | none => .text []
    | some r =>
      .service (hhmm r.schedHm) (w.chars r.dest) (r.vias.map w.chars) r.operator (platformText r.platform r.side)
        (orNone (kind == .platformChange) (match c.oldPlatform with
          | some p => platformText p .none
          | none => []))
        (started.map fun d => (d, hhmm ((r.effSm + dayStart) % 1440).toNat))

/-- R143: the delay recorded at the release check; DELAY only. -/
def World.delayAtRelease (w : World) (c : Cue) : Option Delay :=
  if c.kind == .delay then (w.service c.subject).map (·.delay) else none

/-- R158, step 5: a winner is started on a FREE channel. -/
def World.startCue (i : Fin 4) (c : Cue) (e : Env) (w : World) : World :=
  let started := w.delayAtRelease c
  let c := { c with state := .starting, startedDelay := if c.kind == .delay then started else c.startedDelay }
  let p : Play :=
    { handle := c.handle, origin := c.origin, kind := c.kind, subject := c.subject, zones := c.zones,
      priority := c.priority, startedDelay := started, startAt := e.now }
  let fields := w.startFields c started e.dayStart
  let w := w.setCue c
  (w.setPlay i { phase := .starting, play := some p, timer := none }).auSend (.start c.handle i.val c.zones c.kind fields)

/-- R143: a valid cue that is stale returns to PENDING_WALL; R142 is applied to it anew once the run is over. -/
def World.returnToWall (c : Cue) (rev : Seq) (w : World) : World :=
  (w.setCue { c with state := .pendingWall, seq := rev, queuedAt := none }).push .release

/-- R158, steps 2 to 5. Each turn starts a cue or takes one out of the contest, so 36 turns suffice. -/
def World.contestLoop (e : Env) : Nat → World → World
  | 0, w => w
  | fuel + 1, w =>
    match w.freePlay, (w.contest e).find? w.eligible with
    | some i, some c =>
      match w.releaseCheck c with
      | .withdrawn => World.contestLoop e fuel (w.leave .withdrawnInvalid c e)
      | .stale rev => World.contestLoop e fuel (w.returnToWall c rev)
      | .starts => World.contestLoop e fuel (w.startCue i c e)
    | _, _ => w

/-- R158: a run of the arbiter: only while the link is AVAILABLE and a channel is FREE (DEDUCED, notes/assumptions/21.md). -/
def World.arbitrate (e : Env) (w : World) : World :=
  if w.au.available && w.freePlay.isSome then World.contestLoop e 36 (w.preempt e) else w

/-- R159: the moment of the next change of a QUEUED cue's effective priority whose run has not been made: `queued_at` plus
60,000 × k ms, for k = 1 and, where the priority is 3, k = 2 (DEDUCED, notes/assumptions/20.md). -/
def Cue.nextAging (c : Cue) : Option Nat :=
  if c.state == .queued && decide (c.aged + 1 < c.priority) then
    c.queuedAt.map (· + (c.aged + 1) * Config.agingUs)
  else none

/-- R159: the effective priority of the cue in a slot changes, and the arbiter runs. -/
def World.agingDue (slot : Nat) (e : Env) (w : World) : World :=
  World.arbitrate e
    { w with cues := updateWhere (·.slot == slot) (fun c => { c with aged := c.aged + 1 }) w.cues }

/-! ## Frames from the unit (R161 to R165) -/

/-- R168: the link becomes AVAILABLE or UNAVAILABLE, or the fault flags change. -/
def World.auReport (e : Env) (w : World) : World := w.report (.auState w.au.available w.au.timeouts e.nowMs)

/-- R161, R168: what every good frame does; it comes before what the frame's own kind does, so AU_STATE stands before a CUE_STATE of the
same frame (DESIGN CHOICE, notes/assumptions/50.md). -/
def World.goodFrame (e : Env) (w : World) : World :=
  let w' := { w with au := { w.au with received := satSucc w.au.received, timeouts := 0 } }
  if w.au.available then w'
  else ({ w' with au := { w'.au with available := true, statusTimer := none } }.auReport e).push .arbiter

/-- R161: a frame discarded or lost. -/
def World.badFrame (w : World) : World := { w with au := { w.au with discarded := satSucc w.au.discarded } }

/-- R165: a stray frame is counted; the count stops at 65,535 (DESIGN CHOICE, notes/assumptions/43.md). -/
def World.stray (w : World) : World := { w with au := { w.au with stray := satSucc w.au.stray } }

/-- The channel and the play that a frame's handle names. -/
def World.named (w : World) (handle : Nat) : Option (Fin 4 × Play) :=
  (w.playOf handle).bind fun i => w.au.channels[i].play.map fun p => (i, p)

/-- R162: the play is confirmed: the channel and the cue enter PLAYING, and STARTED is reported. -/
def World.confirm (i : Fin 4) (p : Play) (e : Env) (w : World) : World :=
  let w := w.setPlay i { w.au.channels[i] with phase := .playing, timer := some (e.inSec w.au.playLimit) }
  let w := { w with
    cues := updateWhere (fun c => c.handle == p.handle) (fun c => { c with state := .playing }) w.cues }
  w.playReport (.started i.val) p e

/-- PLAYING (R162, R164, R165) (DEDUCED, notes/assumptions/21.md). -/
def World.auPlaying (handle : Nat) (e : Env) (w : World) : World :=
  let w := w.goodFrame e
  match w.named handle with
  | some (i, p) =>
    match w.au.channels[i].phase with
    | .starting => w.confirm i p e
    | .stopping => w
    | _ => w.stray.auSend (.stop handle)
  | none => w.stray.auSend (.stop handle)

/-- REFUSED (R162, R165). -/
def World.auRefused (handle : Nat) (e : Env) (w : World) : World :=
  let w := w.goodFrame e
  match w.named handle with
  | some (i, p) =>
    match w.au.channels[i].phase with
    | .starting => (w.freeChannel i).playFailed .failedRefused p e
    | _ => w.stray
  | none => w.stray

/-- DONE (R163 to R166). -/
def World.auDone (handle : Nat) (e : Env) (w : World) : World :=
  let w := w.goodFrame e
  match w.named handle with
  | some (i, p) =>
    match w.au.channels[i].phase with
    | .starting => ((w.confirm i p e).freeChannel i).playDone p e
    | .playing => (w.freeChannel i).playDone p e
    | .stopping => w.freeChannel i
    | .free => w.stray
  | none => w.stray

/-- STOPPED (R164, R165). -/
def World.auStopped (handle : Nat) (e : Env) (w : World) : World :=
  let w := w.goodFrame e
  match w.named handle with
  | some (i, _) =>
    match w.au.channels[i].phase with
    | .stopping => w.freeChannel i
    | _ => w.stray
  | none => w.stray

/-- A status reply (R168) (DEDUCED, notes/assumptions/21.md). -/
def World.auStatus (faults : Byte) (e : Env) (w : World) : World :=
  let w := w.goodFrame e
  let changed := w.au.unitStatus != some faults
  let w := { w with au := { w.au with unitStatus := some faults } }
  if changed then w.auReport e else w

/-! ## The receiver on AU_RXD (R161) -/

/-- The handle of a body that carries nothing else. -/
def readHandle (body : List Byte) : Option Nat := (readLe 2 body).bind fun (h, l) => atEnd h l

/-- A complete frame by its kind and body (11.5); its tag is not judged (DESIGN CHOICE, notes/assumptions/12.md). -/
def World.auFrame (kind : Nat) (body : List Byte) (e : Env) (w : World) : World :=
  let of (reply : Nat → Env → World → World) : World :=
    match readHandle body with
    | some h => reply h e w
    | none => w.badFrame
  match kind with
  | 0x81 => of World.auPlaying
  | 0x82 =>
    match (readLe 2 body).bind fun (h, l) => (readByte l).bind fun (_, l) => atEnd h l with
    | some h => w.auRefused h e
    | none => w.badFrame
  | 0x83 => of World.auDone
  | 0x84 => of World.auStopped
  | 0x85 =>
    match (readByte body).bind fun (flags, l) => atEnd flags l with
    | some flags => w.auStatus flags e
    | none => w.badFrame
  | _ => w.badFrame

def World.setRx (rx : Receiver) (rxAt : Option Nat) (w : World) : World := { w with au := { w.au with rx, rxAt } }

/-- R161: a character on AU_RXD. -/
def World.auCharacter (c : RxChar) (e : Env) (w : World) : World :=
  let (rx, ev) := w.au.rx.take c
  let w := w.setRx rx (rx.keeps e.now)
  match ev with
  | .nothing => w
  | .frame kind _ body => w.auFrame kind body e
  | .lost _ _ _ => w.badFrame

/-- R161: the moment at which more than four byte times have passed since the last character of the frame being received. -/
def AnnLink.gapAt (a : AnnLink) : Option Nat := a.rxAt.map (gapFrom Config.auRate)

/-- R161, R180: more than four byte times pass between two characters of a frame. -/
def World.auGapFound (w : World) : World := if w.au.rx = .hunt then w else (w.setRx .hunt none).badFrame

/-- A frame of the unit taken whole: the receiver is in HUNT behind it (DEDUCED, notes/assumptions/4.md). -/
def World.auWhole (f : Env → World → World) (e : Env) (w : World) : World := f e (w.setRx .hunt none)

/-! ## Timers of the link (R162 to R164, R168) -/

/-- The last character of a START has been sent (R162). -/
def World.startSent (i : Fin 4) (e : Env) (w : World) : World :=
  let x := w.au.channels[i]
  if x.phase == .starting && x.timer.isNone then w.setPlay i { x with timer := some (e.inMs w.au.startTimeout) } else w

/-- R162, R168: the count rises, and reaching 3 makes the link UNAVAILABLE. -/
def World.countTimeout (e : Env) (w : World) : World :=
  let n := min 3 (w.au.timeouts + 1)
  let w := { w with au := { w.au with timeouts := n } }
  if w.au.available && n == 3 then
    { w with au := { w.au with available := false, statusTimer := some (e.now + Config.statusUs) } }.auReport e
  else w

/-- The start timer of a channel has expired (R162). -/
def World.startExpired (i : Fin 4) (e : Env) (w : World) : World :=
  match w.au.channels[i].phase, w.au.channels[i].play with
  | .starting, some p => ((w.freeChannel i).playFailed .failedStartTimeout p e).countTimeout e
  | _, _ => w

/-- The play limit of a channel has expired (R163). -/
def World.limitExpired (i : Fin 4) (e : Env) (w : World) : World :=
  match w.au.channels[i].phase, w.au.channels[i].play with
  | .playing, some p => (w.stopChannel i e).playFailed .failedOverrun p e
  | _, _ => w

/-- The stop wait of a channel has expired (R164). -/
def World.stopExpired (i : Fin 4) (w : World) : World :=
  if w.au.channels[i].phase == .stopping then w.freeChannel i else w

/-- The status timer has expired at `expiry` (R168). -/
def World.statusDue (expiry : Nat) (w : World) : World :=
  ({ w with au := { w.au with statusTimer := some (expiry + Config.statusUs) } }).auSend .status

/-! ## AU_SET and RESTART (R169, R170) -/

/-- AU_SET. -/
def World.auSet (startTimeout playLimit stopWait : Nat) (_ : Env) (w : World) : Verdict World :=
  let a := stepClamp 100 500 10000 startTimeout
  let b := stepClamp 1 10 600 playLimit
  let c := stepClamp 100 500 10000 stopWait
  .take (a != startTimeout || b != playLimit || c != stopWait) .empty
    { w with au := { w.au with startTimeout := a, playLimit := b, stopWait := c } }

/-- R156, R170: the cue table is emptied and every play is stopped, without outcomes or reports, from channel 0 to channel 3 (DESIGN
CHOICE, notes/assumptions/58.md). -/
def World.restartAnnounce (e : Env) (w : World) : World :=
  allFour.foldl (fun w i => w.stopChannel i e) { w with cues := [] }

/-! ## Work within the step -/

/-- One piece of work that a cause has left (R65, R102, R142, R158). -/
def World.perform (t : Task) (e : Env) (w : World) : World :=
  match t with
  | .stage => w.stageIfSettled e
  | .release => w.releaseCues e
  | .arbiter => w.arbitrate e
  | .cueEnded code handle => w.changeEnded code handle e

/-- Do the work left, first come first served. The manual bounds no step; `fuel` bounds this one (DEDUCED, notes/assumptions/10.md). -/
def World.drain (e : Env) : Nat → World → World
  | 0, w => w
  | fuel + 1, w =>
    match w.agenda with
    | [] => w
    | t :: rest => World.drain e fuel ({ w with agenda := rest }.perform t e)

/-- The work that a cause has left is done within the same step. -/
def World.settleWork (e : Env) (w : World) : World := World.drain e 4096 w

end Sys2Proof.Machine
end

