-- ==== Sys2Proof/Machine/Dials.lean ====
section
/-! DEFINITION. Machine/Dials.lean: the Dial Drivers (chapter 10): the distance and state of a slave clock line, its pulses and rests,
and the two requests. -/

namespace Sys2Proof.Machine

/-- R174: the state that a distance gives. -/
def dialState (d : Nat) : DialState :=
  if d = 0 then .idle else if d = 1 then .pulsing else if d ≤ 659 then .catchingUp else .holding

/-- c = m mod 720 (chapter 10). -/
def Env.dialMinute (e : Env) : Nat := e.minute % 720

/-- R174: d = (c - dial) mod 720. -/
def dialDistance (c dial : Nat) : Nat := (((c : Int) - dial) % 720).toNat

/-- The line's pulse or rest lasts its width from now. -/
def DialLine.drives (drive : Drive) (e : Env) (x : DialLine) : DialLine :=
  { x with drive, timer := some (e.inMs x.width) }

/-- R175: a pulse begins where one is due and the drive is QUIET. -/
def DialLine.maybePulse (e : Env) (x : DialLine) : DialLine :=
  if (x.state == .pulsing || x.state == .catchingUp) && x.drive == .quiet then x.drives .driving e else x

/-- R174: a line is evaluated; while a pulse is on the line that waits for the pulse's end (DEDUCED, notes/assumptions/24.md). -/
def DialLine.evaluate (e : Env) (x : DialLine) : DialLine :=
  if x.drive == .driving then x
  else if !e.valid || !x.enabled then { x with state := .stopped }
  else
    let d := dialDistance e.dialMinute x.dial
    { x with distance := d, state := dialState d }.maybePulse e

/-- R177: the change of state is one that is reported. -/
def dialTold (old new : DialState) : Bool :=
  let loud (s : DialState) : Bool := s == .stopped || s == .catchingUp || s == .holding
  old != new && (loud old || loud new)

/-- R177: the DIAL_STATE report of line i, if one is due. -/
def dialReports (i : Fin 4) (old new : DialLine) (e : Env) : List Report :=
  if dialTold old.state new.state then
    let live := e.valid && new.enabled
    [.dialState (i.val + 1) old.state new.state new.dial (if live then e.dialMinute else 0)
      (if live then new.distance else 0) e.nowMs]
  else []

/-- R175, R176: the drive timer of a pulse has expired. -/
def DialLine.pulseEnd (e : Env) (x : DialLine) : DialLine :=
  let x := match x.pending with
    | some (dial, next) => { x with dial, next, pending := none }
    | none => { x with dial := (x.dial + 1) % 720, next := x.next.flip }
  (x.drives .resting e).evaluate e

/-- R175: the drive timer of a rest has expired. -/
def DialLine.restEnd (e : Env) (x : DialLine) : DialLine :=
  { x with drive := .quiet, timer := none }.evaluate e

/-- R172: the settings of a line. -/
def DialLine.setLine (enable : Bool) (width : Nat) (e : Env) (x : DialLine) : DialLine :=
  let y := { x with enabled := enable, width }
  if enable then (if x.enabled then y else y.evaluate e) else { y with state := .stopped }

/-- R173, R176: the dial and polarity of a line. -/
def DialLine.setDial (dial : Nat) (next : Impulse) (e : Env) (x : DialLine) : DialLine :=
  if x.drive == .driving then { x with pending := some (dial, next) }
  else { x with dial, next, pending := none }.evaluate e

end Sys2Proof.Machine
end

