-- ==== Sys2Proof/Machine/Time.lean ====
section
/-! DEFINITION. Machine/Time.lean: the Time Base (chapter 1) by itself: running T through the nominal seconds, steps, the reference
states and discipline. What each event does to the other blocks stands in Events.lean. -/

namespace Sys2Proof.Machine

/-! ## Running time (R1, R2) -/

/-- The elapsed time at which the present nominal second began. -/
def TimeBase.secondStart (t : TimeBase) : Nat := t.elapsed / Config.secondUs * Config.secondUs

/-- T before the wrap at midnight: `base` plus the part of the increment run since (R1). -/
def TimeBase.raw (t : TimeBase) : Nat := t.base + t.elapsed % Config.secondUs * t.increment / Config.secondUs

/-- Station time T (R1). -/
def TimeBase.station (t : TimeBase) : Nat := t.raw % Config.dayUs

/-- The slew share of a nominal second: sign(S) × min(|S|, 2000) (R1). -/
def slewShare (s : Int) : Int := if 0 ≤ s then min s 2000 else max s (-2000)

/-- The whole seconds that running T passes between two readings, as station times (R4). -/
def passed (first last : Nat) : List Nat :=
  let k := first / Config.secondUs
  (List.range (last / Config.secondUs - k)).map fun i => (k + 1 + i) * Config.secondUs % Config.dayUs

/-- R4: second events are raised while validity is SET. -/
def TimeBase.pass (first last : Nat) (t : TimeBase) : TimeBase :=
  match t.validity with
  | .unsetTime => t
  | .setTime => { t with due := t.due ++ passed first last }

/-- R1: the present nominal second runs out and the next begins, with its share of S and its increment. -/
def TimeBase.roll (t : TimeBase) : TimeBase :=
  let last := t.base + t.increment
  let share := slewShare t.slew
  let t' := t.pass t.raw last
  { t' with
    elapsed := t.secondStart + Config.secondUs
    base := last % Config.dayUs
    slew := t.slew - share
    increment := (1000000 + t.trim + share).toNat }

/-- A number of nominal seconds run out. -/
def TimeBase.rollMany : Nat → TimeBase → TimeBase
  | 0, t => t
  | k + 1, t => TimeBase.rollMany k t.roll

/-- Time runs on within the present nominal second. -/
def TimeBase.within (target : Nat) (t : TimeBase) : TimeBase :=
  let t' := { t with elapsed := target }
  t'.pass t.raw t'.raw

/-- Time runs to a later elapsed time; an earlier one changes nothing. A nominal second that begins at that very instant has begun
there, so a change of F or S that comes then waits for the next one (DESIGN CHOICE, notes/assumptions/63.md). -/
def TimeBase.runTo (target : Nat) (t : TimeBase) : TimeBase :=
  if target ≤ t.elapsed then t
  else (TimeBase.rollMany (target / Config.secondUs - t.elapsed / Config.secondUs) t).within target

/-- Time runs to the next whole second of T. No increment is below 997,800, so three nominal seconds suffice. -/
def TimeBase.toNextSecond : Nat → TimeBase → TimeBase
  | 0, t => t
  | fuel + 1, t =>
    let need := (t.raw / Config.secondUs + 1) * Config.secondUs - t.base
    let u := (need * Config.secondUs + t.increment - 1) / t.increment
    if u < Config.secondUs then t.within (t.secondStart + u)
    else if need ≤ t.increment then t.roll
    else TimeBase.toNextSecond fuel t.roll

/-! ## Steps (R7 to R11) -/

/-- T is moved by a signed size, round midnight if needed. -/
def TimeBase.move (delta : Int) (t : TimeBase) : TimeBase :=
  { t with base := (((t.base : Int) + delta) % (Config.dayUs : Int)).toNat, stepMark := some t.elapsed }

/-- The boundary of the service day in microseconds. -/
def TimeBase.dayBoundary (t : TimeBase) : Nat := t.dayStart * Config.minuteUs

/-- R7, 1: the span walked forward from T₀, excluded, to T₁, included, holds the boundary. -/
def crossesForward (boundary old : Nat) (delta : Int) : Bool :=
  let d := ((boundary : Int) - old) % (Config.dayUs : Int)
  decide ((if d = 0 then (Config.dayUs : Int) else d) ≤ delta)

/-- R7, 2: the span walked backward from T₀, included, to T₁, excluded, holds the boundary. -/
def crossesBackward (boundary old : Nat) (delta : Int) : Bool :=
  decide (((old : Int) - boundary) % (Config.dayUs : Int) < -delta)

/-- What a step gives the other blocks (R7, 3). -/
structure Stepped where
  dayRoll : Bool
  minuteChanged : Bool
  deriving DecidableEq, Repr

/-- R7: a step of a size other than 0: T, roll held and the last step mark, and what it raises. -/
def TimeBase.stepBy (delta : Int) (t : TimeBase) : TimeBase × Option Stepped :=
  if delta = 0 then (t, none)
  else
    let old := t.station
    let t' := t.move delta
    let forward := decide (0 < delta)
    let crossed := if forward then crossesForward t.dayBoundary old delta else crossesBackward t.dayBoundary old delta
    let t' := if crossed then { t' with rollHeld := !forward } else t'
    (t', some {
      dayRoll := forward && crossed && !t.rollHeld
      minuteChanged := old / Config.minuteUs != t'.station / Config.minuteUs })

/-- The half of a day. -/
def halfDay : Int := 43200000000

/-- R9: a difference of station times reduced into half a day each way. -/
def shortWay (d : Int) : Int := (d + halfDay) % (Config.dayUs : Int) - halfDay

/-- The reference period P of a mode (R10, R14). -/
def RefMode.period : RefMode → Nat
  | .minute => 60000000
  | _ => 1000000

/-- R10: the value congruent to the present phase that lies nearest to the host's time, the later of two. -/
def TimeBase.nearest (host : Nat) (t : TimeBase) : Int :=
  let p : Int := t.mode.period
  let x := ((host : Int) - (t.station : Int)) % p
  if 2 * x < p then (host : Int) - x else (host : Int) - x + p

/-- TIME_SET of a time of day in milliseconds (R8 to R10). -/
def TimeBase.timeSet (h : Nat) (t : TimeBase) : TimeBase × Option Stepped :=
  let host := h * 1000
  match t.validity with
  | .unsetTime =>
    ({ t.move ((host : Int) - t.station) with
        validity := .setTime, slew := 0, pendingStep := none, rollHeld := false },
      some { dayRoll := false, minuteChanged := true })
  | .setTime =>
    if t.refState == .locked then
      { t with pendingStep := none }.stepBy (shortWay (t.nearest host - t.station))
    else
      { t with slew := 0, pendingStep := none }.stepBy (shortWay ((host : Int) - t.station))

/-! ## The reference (R12 to R19) -/

/-- R12: a changed mode. -/
def TimeBase.setMode (mode : RefMode) (t : TimeBase) : TimeBase :=
  if mode == t.mode then t
  else
    { t with
      mode
      refState := if mode == .none then .free else .acquiring
      lastPulse := none
      pendingStep := none
      trimLimit := false
      watch := none }

/-- R12: a changed D. -/
def TimeBase.setDayStart (d : Nat) (t : TimeBase) : TimeBase :=
  if d = t.dayStart then t else { t with dayStart := d, rollHeld := false }

/-- R20: a REFERENCE_STATE report where the reference state changed, with the mode after the change (DESIGN CHOICE,
notes/assumptions/54.md). -/
def refReports (old new : TimeBase) : List Report :=
  if old.refState == new.refState then [] else [.referenceState old.refState new.refState new.mode new.trim]

/-- R13: a step of T was applied after the rising edge; one within the same microsecond is not after it (DESIGN CHOICE,
notes/assumptions/36.md). -/
def TimeBase.stale (edge : Nat) (t : TimeBase) : Bool :=
  match t.stepMark with
  | some m => decide (edge < m)
  | none => false

/-- R14 to R16: the reference state after an accepted pulse with rising edge a, and whether it may be disciplined. -/
def TimeBase.countPulse (edge : Nat) (t : TimeBase) : TimeBase × Bool :=
  let p := t.mode.period
  let interval := 2 * (edge - t.lastPulse.getD 0)
  let counted := { t with lastPulse := some edge }
  match t.refState with
  | .free => (t, false)
  | .holdover => ({ counted with refState := .acquiring }, false)
  | .acquiring =>
    if t.lastPulse.isSome && decide (p ≤ interval) && decide (interval ≤ 3 * p) then
      ({ counted with refState := .locked, watch := some (edge + 3 * p / 2) }, true)
    else (counted, false)
  | .locked => if interval < p then (t, false) else ({ counted with watch := some (edge + 3 * p / 2) }, true)

/-- R17: the phase error of a capture. -/
def phaseError (mode : RefMode) (capture : Nat) : Int :=
  let p := mode.period
  let x := capture % p
  if 2 * x < p then (x : Int) else (x : Int) - p

/-- A quotient rounded to the nearest whole number, halves away from zero (R18). -/
def roundAway (num : Int) (den : Nat) : Int :=
  let q : Int := ((2 * num.natAbs + den) / (2 * den) : Nat)
  if num < 0 then -q else q

/-- A trim clamped into -200..+200 (R18). -/
def clampTrim (f : Int) : Int := max (-200) (min 200 f)

/-- P_s: the reference period in seconds (R18). -/
def RefMode.seconds : RefMode → Nat
  | .minute => 60
  | _ => 1

/-- R18. -/
def TimeBase.slewBy (e : Int) (t : TimeBase) : TimeBase :=
  let f := t.trim - roundAway e (16 * t.mode.seconds)
  { t with pendingStep := none, trim := clampTrim f, trimLimit := f != clampTrim f, slew := -e }

/-- R17 to R19: a disciplined pulse; with a confirmed step its size and what it raises. -/
def TimeBase.discipline (capture : Nat) (t : TimeBase) : TimeBase × Option (Int × Stepped) :=
  let e := phaseError t.mode capture
  let t := { t with lastError := some e }
  if e.natAbs ≤ 1000000 then (t.slewBy e, none)
  else
    match t.pendingStep with
    | none => ({ t with pendingStep := some e }, none)
    | some e1 =>
      if (e - e1).natAbs ≤ 100000 then
        let (t', raised) := { t with slew := 0, pendingStep := none }.stepBy (-e)
        (t', raised.map fun r => (-e, r))
      else ({ t with pendingStep := some e }, none)

/-- R15: the watch has expired. -/
def TimeBase.watchExpired (t : TimeBase) : TimeBase :=
  { t with refState := .holdover, pendingStep := none, watch := none }

/-! ## Boundaries (R4, R5) -/

/-- R5: running T reaches the start of the service day: roll held is cleared, or a day roll is raised. -/
def TimeBase.reachDay (t : TimeBase) : TimeBase × Bool :=
  if t.rollHeld then ({ t with rollHeld := false }, false) else (t, true)

end Sys2Proof.Machine
end

