-- ==== Sys2Proof/Machine/Lines.lean ====
section
/-! DEFINITION. Machine/Lines.lean: one monitor of the Line Monitor (chapter 2): its five states, gaps, qualification, the acceptance
of reference pulses, alarms and settings. What a qualified edge or an accepted pulse does stands in Events.lean. -/

namespace Sys2Proof.Machine

/-- The line is at its active level (2.1). -/
def Monitor.isActive (m : Monitor) : Bool := m.pin == (m.polarity == .activeHigh)

/-- The electrical level that is the active one. -/
def Polarity.activeLevel (p : Polarity) : Bool := p == .activeHigh

/-- A duration in whole milliseconds, saturating (R27). -/
def durationMs (first last : Nat) : Nat := min Config.countTop ((last - first) / 1000)

/-- What a monitor gives at an event. -/
structure Heard where
  /-- The timestamp t_q of a qualified edge (R28). -/
  edge : Option Nat
  /-- T_c and a of an accepted reference pulse (R13). -/
  pulse : Option (Nat × Nat)
  alarms : List Report
  deriving DecidableEq, Repr

/-- Nothing is given. -/
def Heard.nothing : Heard := { edge := none, pulse := none, alarms := [] }

/-- A monitor and what it gives. -/
abbrev Hearing := Monitor × Heard

/-- Nothing more is given. -/
def Monitor.quiet (m : Monitor) : Hearing := (m, Heard.nothing)

/-- R32: a LINE_ALARM report of line number n. -/
def Monitor.alarm (n : Nat) (kind : AlarmKind) (suppressed : Nat) (now : Nat) (m : Monitor) : Report :=
  .lineAlarm n kind (now / 1000) m.lastHigh m.lastLow suppressed

/-- R32: a glitch alarm, at most one report a minute for a line. -/
def Monitor.glitch (n : Nat) (kind : AlarmKind) (now : Nat) (m : Monitor) : Hearing :=
  let due := match m.lastGlitch with
    | none => true
    | some t => decide (t + 60000000 ≤ now)
  if due then
    ({ m with glitches := 0, lastGlitch := some now },
      { Heard.nothing with alarms := [m.alarm n kind m.glitches now] })
  else { m with glitches := satSucc m.glitches }.quiet

/-- R25, R29: the level is judged stuck. -/
def Monitor.suspend (n : Nat) (now : Nat) (m : Monitor) : Hearing :=
  let m := { m with stuck := true, state := .suspended }
  (m, { Heard.nothing with alarms := [m.alarm n .stuckEntry 0 now] })

/-- R23: t_q, the rise mark plus `min_high`. -/
def Monitor.qualifyAt (m : Monitor) : Option Nat := m.rise.map (· + m.minHigh * 1000)

/-- R25: the moment at which the level is stuck. -/
def Monitor.stuckAt (m : Monitor) : Option Nat := if m.maxHigh = 0 then none else m.rise.map (· + m.maxHigh * 1000)

/-- The moment has come. -/
def reached (now : Nat) : Option Nat → Bool
  | some t => decide (t ≤ now)
  | none => false

/-- R25: a level in ACTIVE (REF: PENDING) that has passed `max_high` with no gap open. -/
def Monitor.checkStuck (n : Nat) (now : Nat) (m : Monitor) : Hearing :=
  if reached now m.stuckAt then m.suspend n now else m.quiet

/-- Two things given one after the other. -/
def Heard.and (a b : Heard) : Heard :=
  { edge := match a.edge with
      | some t => some t
      | none => b.edge
    pulse := match a.pulse with
      | some x => some x
      | none => b.pulse
    alarms := a.alarms ++ b.alarms }

/-- R23: an event line's level qualifies with the timestamp t_q. -/
def Monitor.qualify (n : Nat) (now : Nat) (m : Monitor) : Hearing :=
  let t := m.qualifyAt
  let (m, h) := { m with state := .active }.checkStuck n now
  (m, { Heard.nothing with edge := t }.and h)

/-- R22, R27: a rising edge in IDLE starts an active level; on REF the station time is read. -/
def Monitor.start (ref : Bool) (station now : Nat) (m : Monitor) : Monitor :=
  { m with
    state := .pending
    rise := some now
    riseTime := orNone ref station
    gap := none
    lastLow := match m.lastEnd with
      | some x => durationMs x now
      | none => m.lastLow }

/-- A rising edge of line n (R21 to R26, R29); one at a line already active changes nothing (DEDUCED, notes/assumptions/16.md). -/
def Monitor.rising (n : Nat) (ref : Bool) (station now : Nat) (m : Monitor) : Hearing :=
  if m.isActive then m.quiet
  else
    let m := { m with pin := m.polarity.activeLevel }
    match m.state with
    | .rearm => { m with quietFrom := none }.quiet
    | .idle => (m.start ref station now).quiet
    | .pending =>
      let m := { m with gap := none }
      if ref then m.checkStuck n now
      else if reached now m.qualifyAt then m.qualify n now else m.quiet
    | .active => { m with gap := none }.checkStuck n now
    | .suspended => { m with gap := none }.quiet

/-- A falling edge (R21, R22). -/
def Monitor.falling (now : Nat) (m : Monitor) : Monitor :=
  if !m.isActive then m
  else
    let m := { m with pin := !m.polarity.activeLevel }
    match m.state with
    | .rearm => { m with quietFrom := some now }
    | .idle => m
    | _ => { m with gap := some now }

/-- R21: the moment at which a line in REARM has been inactive for `min_low`. -/
def Monitor.rearmAt (m : Monitor) : Option Nat :=
  if m.state == .rearm then m.quietFrom.map (· + m.minLow * 1000) else none

/-- R21: the monitor enters IDLE; the start of the inactive level is the end of the previous active level. -/
def Monitor.rearmed (m : Monitor) : Monitor := { m with state := .idle, lastEnd := m.quietFrom, quietFrom := none }

/-- R22: the moment at which the open gap is confirmed. -/
def Monitor.confirmAt (m : Monitor) : Option Nat :=
  if m.state == .rearm || m.state == .idle then none else m.gap.map (· + m.minLow * 1000)

/-- R27: the active level has ended at the gap mark; the monitor enters IDLE. -/
def Monitor.over (gap rise : Nat) (m : Monitor) : Monitor :=
  { m with
    state := .idle
    rise := none
    riseTime := none
    gap := none
    lastEnd := some gap
    lastHigh := durationMs rise gap }

/-- R29: the window in force. -/
def RefWindows.inForce (w : RefWindows) (mode : RefMode) : Nat × Nat :=
  match mode with
  | .minute => (w.minLo, w.minHi)
  | _ => (w.secLo, w.secHi)

/-- R29: an ended reference pulse is judged against the window in force. -/
def Monitor.judgePulse (window : Nat × Nat) (gap rise capture now : Nat) (m : Monitor) : Hearing :=
  let h := (gap - rise) / 1000
  let m := m.over gap rise
  if h < window.1 then { m with highShort := true }.glitch 13 .highShort now
  else if window.2 < h then { m with highLong := true }.glitch 13 .highLong now
  else (m, { Heard.nothing with pulse := some (capture, rise) })

/-- R22, R24, R26, R29: the open gap is confirmed. -/
def Monitor.confirmed (n : Nat) (ref : Bool) (window : Nat × Nat) (now : Nat) (m : Monitor) : Hearing :=
  match m.gap, m.rise with
  | some gap, some rise =>
    match m.state with
    | .pending =>
      if ref then m.judgePulse window gap rise (m.riseTime.getD 0) now
      else { m.over gap rise with highShort := true }.glitch n .highShort now
    | .active => (m.over gap rise).quiet
    | .suspended =>
      let m := m.over gap rise
      (m, { Heard.nothing with alarms := [m.alarm n .stuckExit 0 now] })
    | _ => m.quiet
  | _, _ => m.quiet

/-- R23: the qualification timer, running on an event line in PENDING with no gap open. -/
def Monitor.qualifyTimer (ref : Bool) (m : Monitor) : Option Nat :=
  if m.state == .pending && !ref && m.gap.isNone then m.qualifyAt else none

/-- R25, R29: the `max_high` timer, running in ACTIVE (REF: PENDING) with no gap open. -/
def Monitor.stuckTimer (ref : Bool) (m : Monitor) : Option Nat :=
  if m.state == (if ref then .pending else .active) && m.gap.isNone then m.stuckAt else none

/-! ## LINE_SET, LINE_CLEAR, RESTART (R30 to R34) -/

/-- R30: the start of the inactive level the line is at, where it is known; none where the line is active (DEDUCED, notes/assumptions/16.md). -/
def Monitor.inactiveSince (now : Nat) (m : Monitor) : Option Nat :=
  if m.isActive then none
  else match m.state with
    | .rearm => m.quietFrom
    | .idle => m.lastEnd
    | _ => some (m.gap.getD now)

/-- R30: the active level in progress is abandoned. -/
def Monitor.abandon (quietFrom : Option Nat) (m : Monitor) : Monitor :=
  { m with state := .rearm, rise := none, riseTime := none, gap := none, quietFrom }

/-- R30: new settings apply; a changed polarity, `min_high`, `max_high` or `min_low` puts the monitor in REARM. -/
def Monitor.settle (polarity : Polarity) (minHigh maxHigh minLow : Nat) (now : Nat) (m : Monitor) : Monitor :=
  let y := { m with polarity, minHigh, maxHigh, minLow }
  if m.polarity == polarity && m.minHigh == minHigh && m.maxHigh == maxHigh && m.minLow == minLow then m
  else if m.polarity == polarity then y.abandon (m.inactiveSince now)
  else y.abandon (orNone (!y.isActive) now)

/-- R30: `max_high` as taken. -/
def maxHighOf (n : Nat) : Nat := if n = 0 then 0 else clamp 100 60000 n

/-- LINE_SET for an event line. -/
def Monitor.setEvent (polarity minHigh maxHigh minLow role platform now : Nat) (m : Monitor) : Verdict Monitor :=
  let a := clamp 10 5000 minHigh
  let b := maxHighOf maxHigh
  let c := clamp 10 5000 minLow
  match Polarity.ofCode polarity, Role.ofCode role platform with
  | some p, some r =>
    if b ≠ 0 ∧ b ≤ a then refuse .conflict
    else .take (a != minHigh || b != maxHigh || c != minLow) .empty { m.settle p a b c now with role := r }
  | _, _ => refuse .outOfRange

/-- LINE_SET for REF (R31). -/
def Monitor.setRef (r : LineSetReq) (now : Nat) (m : Monitor) : Verdict (Monitor × RefWindows) :=
  match r with
  | .event _ _ _ _ _ _ _ => refuse .outOfRange
  | .ref polarity minLow maxHigh secLo secHi minLo minHi role =>
    let b := maxHighOf maxHigh
    let c := clamp 10 5000 minLow
    let w : RefWindows :=
      { secLo := clamp 10 900 secLo, secHi := clamp 10 900 secHi
        minLo := clamp 10 30000 minLo, minHi := clamp 10 30000 minHi }
    let adjusted := b != maxHigh || c != minLow || w.secLo != secLo || w.secHi != secHi || w.minLo != minLo ||
      w.minHi != minHi
    match Polarity.ofCode polarity with
    | none => refuse .outOfRange
    | some p =>
      if role ≠ 0 then refuse .outOfRange
      else if w.secHi ≤ w.secLo ∨ w.minHi ≤ w.minLo then refuse .conflict
      else if b ≠ 0 ∧ (b ≤ w.secHi ∨ b ≤ w.minHi) then refuse .conflict
      else .take adjusted .empty (m.settle p m.minHigh b c now, w)

/-- R33: the latched flags are cleared. -/
def Monitor.clearFlags (m : Monitor) : Monitor := { m with highShort := false, highLong := false, stuck := false }

/-- R34: RESTART. -/
def Monitor.restart (m : Monitor) : Monitor := { m.clearFlags with glitches := 0, lastGlitch := none }

end Sys2Proof.Machine
end

