-- ==== Sys2Proof/Machine/StringLinks.lean ====
section
/-! DEFINITION. Machine/StringLinks.lean: the String Links (chapter 7): the exchanges with modules, module health and flags, flow
control, polls, stall faults and the link test, each with what it tells the Commit Controller. -/

namespace Sys2Proof.Machine

/-! ## Line timing (R122, R126) -/

/-- R126: the moment from which the line has been quiet for two byte times. -/
def Channel.quietAt (c : Channel) : Nat :=
  match c.lastChar with
  | none => 0
  | some t => t + c.settings.byteTimes 2

/-- R133: the flow of the channel is stopped. -/
def Channel.stopped (c : Channel) : Bool :=
  match c.settings.flow with
  | .none => false
  | .busyLine => c.busy
  | .pauseCodes => c.flowStopped

/-- The receiver hears the line: every state but OFF, FAULTED and SENDING (R123, R126), and not during a link test, when the
receiver is on the engine's own transmitter (R136). -/
def Channel.listening (c : Channel) : Bool :=
  (c.state == .ready || c.state == .waiting || c.state == .held) && !c.testing

/-- R126: a character has been received; noise, where it belongs to no reply. -/
def Channel.heard (now : Nat) (c : Channel) : Channel := if c.listening then { c with lastChar := some now } else c

/-! ## Beginning a frame (R126, R133) -/

/-- R126: enter SENDING with the head frame, which stays at the head of the queue until its exchange ends (R124, R129) and there
counts the attempts begun. -/
def Channel.sendHead (now : Nat) (c : Channel) : Channel :=
  match c.queue with
  | [] => c
  | q :: rest =>
    { c with
      state := .sending
      queue := { q with attempts := q.attempts + 1 } :: rest
      holdTimer := none
      exchange := some {
        frame := q.frame
        attempt := q.attempts + 1
        orphan := false
        sendEnds := some (now + c.settings.byteTimes (frameBytes q.frame).length)
        replyTimer := none
        reply := [] } }

/-- R126, R136: a frame may begin in READY, not during a link test. A test that waits lets a resend of its exchange begin. -/
def Channel.mayBegin (c : Channel) : Bool :=
  c.state == .ready && !c.queue.isEmpty && !c.testing

/-- R126, R133: the head frame begins, or the channel enters HELD where flow is stopped. -/
def Channel.beginFrame (now : Nat) (c : Channel) : Channel :=
  if !c.mayBegin then c
  else if c.stopped then { c with state := .held, holdTimer := some (now + Config.holdUs) }
  else c.sendHead now

/-- R133: flow resumes in HELD: the head frame begins at once. Flow control does not apply during a link test, which leaves the
hold timer as it is (R136). -/
def Channel.resumeHeld (now : Nat) (c : Channel) : Channel :=
  if c.state == .held && !c.stopped && !c.testing then c.sendHead now else c

/-! ## Modules (R131, R132) -/

/-- Change the record of module m, counted from 1. -/
def Channel.updateModule (m : Nat) (f : ModuleRec → ModuleRec) (c : Channel) : Channel :=
  if h : 1 ≤ m ∧ m ≤ 8 then { c with modules := c.modules.set (m - 1) (f c.modules[m - 1]) } else c

/-- The record of module m, counted from 1. -/
def Channel.moduleRec (m : Nat) (c : Channel) : ModuleRec := (c.modules.toList[m - 1]?).getD ModuleRec.reset

/-- R131: a good reply sets the missed count to 0 and the health to OK. -/
def ModuleRec.good (m : ModuleRec) : ModuleRec := { m with health := .ok, missed := 0 }

/-- R131: the health a missed count gives. -/
def healthOfMissed (n : Nat) : Health := if n = 0 then .ok else if n ≤ 2 then .suspect else .lost

/-- R131: a missed exchange. -/
def ModuleRec.miss (m : ModuleRec) : ModuleRec :=
  let n := min 3 (m.missed + 1)
  { m with missed := n, health := healthOfMissed n }

/-- R132: a MODULE_STATE report where the end of an exchange changed the module's health or its reported flags. -/
def World.reportModule (n : StringNo) (m : Nat) (old : ModuleRec) (e : Env) (w : World) : World :=
  let new := (w.channel n).moduleRec m
  if new.health == old.health && new.reported == old.reported then w
  else w.report (.moduleState (n.val + 1) m new.health new.missed new.reported e.nowMs)

/-! ## The end of an exchange (R128 to R130) -/

/-- R129: the exchange ends, the channel enters READY and the frame leaves the queue; a link test that waited begins (R136). -/
def Channel.endExchange (now : Nat) (c : Channel) : Channel :=
  { c with state := .ready, exchange := none, queue := c.queue.tail }.wakeTest now

/-- R128: the channel returns to READY, the frame still at the head of the queue for its next attempt. -/
def Channel.resend (c : Channel) : Channel := { c with state := .ready, exchange := none }

/-- R131, R116: tell the Controller of a module's change to LOST or return from LOST, and judge readiness. -/
def World.tellHealth (n : StringNo) (m : Nat) (old new : Health) (e : Env) (w : World) : World :=
  if old != .lost && new == .lost then (w.moduleLost n m e).judge e
  else if old == .lost && new == .ok then w.restageAll n e
  else w

/-- R128, R129: an exchange given up. -/
def World.giveUp (n : StringNo) (f : Frame) (e : Env) (w : World) : World :=
  let c := w.channel n
  let m := f.moduleNo
  let old := c.moduleRec m
  let w := w.setChannel n ((c.updateModule m ModuleRec.miss).endExchange e.now)
  let new := (w.channel n).moduleRec m
  let w := w.reportModule n m old e
  let w := match f with
    | .stageRow _ _ row _ => w.failRow n row .givenUp e
    | .poll _ => w
  w.tellHealth n m old.health new.health e

/-- R128, R130: the attempt has failed; `c` is the channel with the failure counted. -/
def World.failAttempt (n : StringNo) (c : Channel) (e : Env) (w : World) : World :=
  match c.exchange with
  | none => w.setChannel n c
  | some x =>
    if x.orphan then w.setChannel n (c.endExchange e.now)
    else if x.attempt ≤ c.settings.retries then w.setChannel n c.resend
    else (w.setChannel n c).giveUp n x.frame e

/-- R127, R128: a void reply. -/
def World.voidAttempt (n : StringNo) (e : Env) (w : World) : World :=
  let c := w.channel n
  w.failAttempt n { c with voids := satSucc c.voids } e

/-- R129: a good ACK_STAGE. An orphan acts on the module record only (R130) (DEDUCED, notes/assumptions/22.md). The count of rejects
stops at 65,535 as the two of R128 do (DESIGN CHOICE, notes/assumptions/69.md). -/
def World.goodStage (n : StringNo) (m row : Nat) (reject orphan : Bool) (e : Env) (w : World) : World :=
  let c := w.channel n
  let old := c.moduleRec m
  let c := c.updateModule m fun r => { r.good with reject := reject }
  let c := if reject then { c with rejects := satSucc c.rejects } else c
  let w := w.setChannel n (c.endExchange e.now)
  let w := w.reportModule n m old e
  let w := if orphan then w
    else if reject then w.failRow n row .rejected e else w.acknowledge n row e
  w.tellHealth n m old.health .ok e

/-- R129, R132: a good STATUS. -/
def World.goodStatus (n : StringNo) (m : Nat) (flags : ModuleFlags) (e : Env) (w : World) : World :=
  let c := w.channel n
  let old := c.moduleRec m
  let c := c.updateModule m fun r => { r.good with flags := flags }
  let w := w.setChannel n (c.endExchange e.now)
  let w := w.reportModule n m old e
  let w := if flags.contentLost then w.restageAll n e else w
  w.tellHealth n m old.health .ok e

/-! ## Replies as they arrive (R127) -/

/-- A whole ACK_STAGE with a good check: good where its header and rows agree with the frame sent, void otherwise, and
noise where no reply is awaited (R127, R128). It is taken whole, at its end (DESIGN CHOICE, notes/assumptions/34.md). -/
def World.ackStage (n : StringNo) (m moduleRow row : Nat) (reject : Bool) (e : Env) (w : World) : World :=
  let c := w.channel n
  let w := w.setChannel n (c.heard e.now)
  match c.state, c.exchange with
  | .waiting, some x =>
    match x.frame with
    | .stageRow m' mr' row' _ =>
      if m == m' && moduleRow == mr' && row == row' then w.goodStage n m row reject x.orphan e else w.voidAttempt n e
    | .poll _ => w.voidAttempt n e
  | _, _ => w

/-- A whole STATUS with a good check, taken at its end (R127) (DESIGN CHOICE, notes/assumptions/34.md). -/
def World.status (n : StringNo) (m : Nat) (flags : ModuleFlags) (e : Env) (w : World) : World :=
  let c := w.channel n
  let w := w.setChannel n (c.heard e.now)
  match c.state, c.exchange with
  | .waiting, some x =>
    match x.frame with
    | .poll m' => if m == m' then w.goodStatus n m flags e else w.voidAttempt n e
    | .stageRow _ _ _ _ => w.voidAttempt n e
  | _, _ => w

/-- What a character makes of the reply being received (R127). -/
inductive ReplyEvent where
  | more
  | void
  | ack (reject : Bool)
  | status (flags : ModuleFlags)
  deriving DecidableEq, Repr

/-- What a reply to the frame must begin with (R127, 11.5): the module addressed, the kind that answers it, the length of that
kind's body, and of an ACK_STAGE the two rows of the frame. One character and the check follow. -/
def Frame.replyHead : Frame → List Byte
  | .stageRow m mr row _ => le 1 m ++ le 1 0x81 ++ le 2 3 ++ le 1 mr ++ le 1 row
  | .poll m => le 1 m ++ le 1 0x82 ++ le 2 1

/-- The flags of a STATUS (11.5). Its other four bits mean nothing (DESIGN CHOICE, notes/assumptions/53.md). -/
def statusFlags (b : Byte) : ModuleFlags where
  contentLost := b.getLsbD 0
  lampFault := b.getLsbD 1
  overheat := b.getLsbD 2
  mismatch := b.getLsbD 3

/-- What a whole reply with a good check says. An ACK_STAGE whose result is neither OK nor REJECT is void (DESIGN CHOICE,
notes/assumptions/53.md). -/
def Frame.answer (f : Frame) (b : Byte) : ReplyEvent :=
  match f with
  | .poll _ => .status (statusFlags b)
  | .stageRow _ _ _ _ => if b = 0 then .ack false else if b = 1 then .ack true else .void

/-- R127: the characters received so far of the reply to a frame. A header or row that does not agree makes the reply void at its
first character that does not (DEDUCED, notes/assumptions/62.md), a wrong check at the reply's end. -/
def Frame.judge (f : Frame) (got : List Byte) : ReplyEvent :=
  let head := f.replyHead
  let inner := got.take (head.length + 1)
  if got.take head.length ≠ head.take got.length then .void
  else if got.length < head.length + 3 then .more
  else if checkBytes inner ≠ got.drop (head.length + 1) then .void
  else match got[head.length]? with
    | some b => f.answer b
    | none => .void

/-- R127: a character of a reply, in WAITING: it stops the reply timer, and one with a framing error makes the reply void. -/
def World.replyCharacter (n : StringNo) (x : Exchange) (c : RxChar) (e : Env) (w : World) : World :=
  let got := x.reply ++ [c.byte]
  let more := w.setChannel n { w.channel n with exchange := some { x with replyTimer := none, reply := got } }
  match if c.framed then x.frame.judge got else .void with
  | .more => more
  | .void => more.voidAttempt n e
  | .ack reject =>
    match x.frame with
    | .stageRow m _ row _ => more.goodStage n m row reject x.orphan e
    | .poll _ => more
  | .status flags => more.goodStatus n x.frame.moduleNo flags e

/-- R126, R127: a character that is no flow code, on a line that the engine listens to: one of the reply in WAITING, noise
otherwise. -/
def World.lineCharacter (n : StringNo) (c : RxChar) (e : Env) (w : World) : World :=
  let ch := w.channel n
  let w := w.setChannel n (ch.heard e.now)
  if ch.state == .waiting && ch.listening then
    match ch.exchange with
    | some x => w.replyCharacter n x c e
    | none => w
  else w

/-- R127: the moment at which more than two byte times have passed since the last character of the reply being received: the first
whole microsecond after them (DEDUCED, notes/assumptions/25.md). -/
def Channel.gapAt (c : Channel) : Option Nat :=
  match c.state, c.exchange, c.lastChar with
  | .waiting, some x, some t => orNone (!x.reply.isEmpty) (t + 2 * (8 * c.settings.divI + c.settings.divF) / 4 + 1)
  | _, _, _ => none

/-- R128: the reply timer has expired. -/
def World.replyTimeout (n : StringNo) (e : Env) (w : World) : World :=
  let c := w.channel n
  w.failAttempt n { c with timedOut := satSucc c.timedOut } e

/-- R126: the last character of the frame has been sent. -/
def Channel.frameSent (now : Nat) (c : Channel) : Channel :=
  match c.state, c.exchange with
  | .sending, some x =>
    { c with
      state := .waiting
      exchange := some { x with sendEnds := none, replyTimer := some (now + c.settings.timeout * 1000), reply := [] } }
  | _, _ => c

/-! ## Polls and stall faults (R125, R134, R135) -/

/-- The module after m in poll order, from the module count back to 1 (R125). -/
def StringSettings.nextModule (s : StringSettings) (m : Nat) : Nat := if m < s.modules then m + 1 else 1

/-- R125: place a POLL to the module the pointer names and advance the pointer. -/
def Channel.placePoll (c : Channel) : Channel :=
  { c with
    queue := c.queue ++ [{ frame := .poll c.pollPtr, attempts := 0 }]
    pollPtr := c.settings.nextModule c.pollPtr }

/-- R125: a poll tick at `expiry`, the channel not OFF. -/
def Channel.pollTick (expiry : Nat) (c : Channel) : Channel :=
  let c := { c with pollTimer := some (expiry + Config.pollUs) }
  if c.queue.isEmpty && c.test.isNone && c.state != .faulted then c.placePoll else c

/-- R134: the hold timer has expired. -/
def World.stall (n : StringNo) (e : Env) (w : World) : World :=
  let c := w.channel n
  let w := w.setChannel n
    (({ c with state := .faulted, queue := [], holdTimer := none, faultTimer := some (e.now + Config.faultUs) } :
      Channel).wakeTest e.now)
  let w := w.report (.stringState (n.val + 1) (w.wall n).lit .stalled w.commit.generation)
  (w.fail n .faulted e).judge e

/-- R135: the fault timer has expired. -/
def World.recover (n : StringNo) (e : Env) (w : World) : World :=
  let c := w.channel n
  let w := w.setChannel n { c with state := .ready, faultTimer := none, flowStopped := false }.placePoll
  let w := w.report (.stringState (n.val + 1) (w.wall n).lit .recovered w.commit.generation)
  w.judge e

/-! ## Flow codes (R133) -/

/-- A pause code on a line in PAUSE_CODES. -/
def Channel.pauseCode (now : Nat) (c : Channel) : Channel :=
  if c.listening then { c.heard now with flowStopped := true } else c

/-- A resume code on a line in PAUSE_CODES. -/
def Channel.resumeCode (now : Nat) (c : Channel) : Channel :=
  if c.listening then { c.heard now with flowStopped := false }.resumeHeld now else c

/-- A character of the pause value has been received: a pause code in PAUSE_CODES, an ordinary character otherwise. -/
def World.pauseCode (n : StringNo) (e : Env) (w : World) : World :=
  let c := w.channel n
  if c.settings.flow == .pauseCodes then w.setChannel n (c.pauseCode e.now)
  else w.lineCharacter n { byte := c.settings.pause, framed := true } e

/-- A character of the resume value has been received. -/
def World.resumeCode (n : StringNo) (e : Env) (w : World) : World :=
  let c := w.channel n
  if c.settings.flow == .pauseCodes then w.setChannel n (c.resumeCode e.now)
  else w.lineCharacter n { byte := c.settings.resume, framed := true } e

/-- A character on the data line: a flow code, by its value alone, is taken out of the stream before the reply is judged
(R127, R133). -/
def World.dataCharacter (n : StringNo) (x : RxChar) (e : Env) (w : World) : World :=
  let c := w.channel n
  if c.settings.flow == .pauseCodes && x.byte == c.settings.pause then w.setChannel n (c.pauseCode e.now)
  else if c.settings.flow == .pauseCodes && x.byte == c.settings.resume then w.setChannel n (c.resumeCode e.now)
  else w.lineCharacter n x e

/-- BSY is asserted or released; during a link test the level alone changes (R136). -/
def Channel.busyReturn (asserted : Bool) (now : Nat) (c : Channel) : Channel :=
  { c with busy := asserted }.resumeHeld now

/-! ## Link test (R136) -/

/-- R136: a LINK_TEST is taken: it waits for an exchange on the line, and begins at once otherwise. -/
def Channel.startTest (now : Nat) (c : Channel) : Channel :=
  if c.onLine then { c with test := some .waiting } else c.beginTest now

/-- R136: how many characters matched, from the first to the first difference, which a character received with a framing error
is (DESIGN CHOICE, notes/assumptions/42.md). -/
def matchCount : List RxChar → List Byte → Nat
  | x :: xs, y :: ys => if x.framed && x.byte == y then matchCount xs ys + 1 else 0
  | _, _ => 0

/-- R136: the test ends; a HELD channel stays HELD only with a frame behind it and its flow still stopped. -/
def Channel.endTest (now : Nat) (c : Channel) : Channel := ({ c with test := none }.unhold).resumeHeld now

/-- R136: the test ends with the characters that came back. -/
def World.testResult (n : StringNo) (received : List RxChar) (e : Env) (w : World) : World :=
  let matched := matchCount received testPattern
  let result := if matched == 16 then TestResult.same else .mismatch
  (w.setChannel n ((w.channel n).endTest e.now)).report (.linkTestResult (n.val + 1) result matched)

/-- R136: characters come back: the test ends at the sixteenth. -/
def World.testCharacters (n : StringNo) (chars : List RxChar) (e : Env) (w : World) : World :=
  let c := w.channel n
  match c.test with
  | some (.running received waitEnds) =>
    let got := received ++ chars
    if 16 ≤ got.length then w.testResult n (got.take 16) e
    else w.setChannel n { c with test := some (.running got waitEnds) }
  | _ => w

/-- R136: the wait of the test is over. -/
def World.testWaitOver (n : StringNo) (e : Env) (w : World) : World :=
  match (w.channel n).test with
  | some (.running received _) => w.testResult n received e
  | _ => w

/-- R136: the end of the wait of a test that runs. -/
def Channel.testEndsAt (c : Channel) : Option Nat :=
  match c.test with
  | some (.running _ waitEnds) => some waitEnds
  | _ => none

/-! ## STRING_SET (R120, R121) -/

/-- R121: the reset of a channel by STRING_SET. -/
def Channel.setString (s : StringSettings) (now : Nat) (c : Channel) : Channel :=
  { c with
    settings := s
    state := if s.enabled then .ready else .off
    queue := []
    exchange := none
    flowStopped := false
    holdTimer := none
    faultTimer := none
    pollTimer := if s.enabled then some (now + Config.pollUs) else none
    pollPtr := 1
    test := none
    timedOut := 0
    voids := 0
    rejects := 0
    modules := Vector.replicate 8 ModuleRec.reset }

/-- R120: the settings a STRING_SET gives, and whether a clamp acted. -/
def stringSettings (r : StringSetReq) : Option (StringSettings × Bool) :=
  match Group.ofCode r.group, FlowMode.ofCode r.flow with
  | some group, some flow =>
    let timeout := clamp 5 200 r.timeout
    let retries := clamp 0 3 r.retries
    some
      ({ enabled := r.enable, divI := r.divI, divF := r.divF, modules := r.modules, rows := r.rows, group, flow,
         pause := r.pause, resume := r.resume, timeout, retries },
       timeout != r.timeout || retries != r.retries)
  | _, _ => none

/-- R120: a value lies outside its range. -/
def stringSetBad (r : StringSetReq) : Bool :=
  !(decide (1 ≤ r.modules) && decide (r.modules ≤ 8) && decide (1 ≤ r.rows) && decide (r.rows ≤ 6) &&
    decide (4 ≤ r.divI) && decide (r.divI ≤ 2047) && decide (r.divF ≤ 7))

/-- R121, R114, R81: what a taken STRING_SET does on the String Links, the Commit Controller and the Composer. -/
def World.applyString (n : StringNo) (s : StringSettings) (e : Env) (w : World) : World :=
  let c := w.channel n
  let w := if c.test.isSome then w.report (.linkTestResult (n.val + 1) .abandoned 0) else w
  let w := w.setChannel n (c.setString s e.now)
  let w := (w.blankString n e).endStaging e
  let (w, changed) := w.composeString n e
  w.tell changed false e

/-- STRING_SET (R120). -/
def World.stringSet (r : StringSetReq) (e : Env) (w : World) : Verdict World :=
  match stringOf r.string, stringSettings r with
  | some n, some (s, adjusted) =>
    if stringSetBad r then refuse .outOfRange
    else if s.flow == .pauseCodes && s.pause == s.resume then refuse .conflict
    else .take adjusted .empty (w.applyString n s e)
  | _, _ => refuse .outOfRange

/-- LINK_TEST (R136). -/
def World.linkTest (string : Nat) (e : Env) (w : World) : Verdict World :=
  match stringOf string with
  | none => refuse .outOfRange
  | some n =>
    let c := w.channel n
    if c.test.isSome || (w.wall n).part != .none then refuse .wrongState
    else taken (w.setChannel n (c.startTest e.now))

end Sys2Proof.Machine
end

