-- ==== Sys2Proof/Machine/Events.lean ====
section
/-! DEFINITION. Machine/Events.lean: the whole state at an event: how a command finds its time, the present time as the blocks read it,
work within the step, reports and the transmitter, and the events of the Time Base and the Line Monitor with all they
do. -/

namespace Sys2Proof.Machine

/-! ## The time of a command -/

/-- R151: the platform of an APPROACH role. -/
def Role.approachPlatform : Role → Option Nat
  | .approach p => some p
  | _ => Option.none

/-- The present time as the blocks read it (R6). -/
def State.env (s : State) : Env where
  now := s.time.elapsed
  valid := s.time.validity == .setTime
  station := s.time.station
  dayStart := s.time.dayStart
  rollHeld := s.time.rollHeld
  approach := (allLines.filter (· != refLine)).filterMap fun i => s.lines[i].role.approachPlatform

/-- The departure picture as a command finds it: nothing made, placed or left to do yet (the MODEL'S OWN fields). -/
def World.fresh (w : World) : World := { w with au := { w.au with made := [] }, out := [], agenda := [] }

/-- A command that comes at an elapsed time; time has run on to it. -/
def State.begin (target : Nat) (s : State) : State :=
  { s with time := s.time.runTo target, world := s.world.fresh }

/-- A command that comes a span after the one before. -/
def State.after (dt : Nat) (s : State) : State := s.begin (s.time.elapsed + dt)

/-! ## Changing the state -/

def State.setTime (t : TimeBase) (s : State) : State := { s with time := t }
def State.setWorld (w : World) (s : State) : State := { s with world := w }
def State.setLine (i : LineNo) (m : Monitor) (s : State) : State := { s with lines := s.lines.set i m }
def State.setDialLine (i : Fin 4) (x : DialLine) (s : State) : State := { s with dials := s.dials.set i x }
def State.setLink (l : Link) (s : State) : State := { s with link := l }

/-- A cause on the departure picture, with the work it leaves for the same step. -/
def State.work (f : Env → World → World) (s : State) : State := s.setWorld ((f s.env s.world).settleWork s.env)

/-- Place reports of a block outside the departure picture. -/
def State.reports (l : List Report) (s : State) : State := s.setWorld { s.world with out := s.world.out ++ l }

/-! ## The transmitter and the report queue (R184) -/

/-- R184: an idle transmitter begins the reply, or else the report at the head of the queue. -/
def Link.kick (l : Link) : Link :=
  if l.tx.isSome || !l.hostReady then l
  else match l.slot with
    | some r => { l with tx := some (.reply r) }
    | none =>
      match l.reports with
      | r :: rest => { l with tx := some (.report r), reports := rest }
      | [] => l

/-- R184: a report is placed, or lost to a full queue; it takes a number either way. -/
def Link.place (r : Report) (l : Link) : Link :=
  if l.reports.length < Config.reportDepth then
    { l with
      reports := l.reports ++ [{ number := l.reportSeq, dropped := l.dropped, report := r }]
      reportSeq := l.reportSeq + 1 }
  else { l with reportSeq := l.reportSeq + 1, dropped := l.dropped + 1 }

/-- The command is over: its reports are placed in order, and the transmitter takes what it can (DEDUCED, notes/assumptions/11.md). -/
def State.close (s : State) : State :=
  (s.setWorld { s.world with out := [] }).setLink (s.world.out.foldl (fun l r => (l.place r).kick) s.link.kick)

/-! ## Dials -/

/-- Change a slave clock line and report its change of state (R177). -/
def State.dial (i : Fin 4) (f : Env → DialLine → DialLine) (s : State) : State :=
  let x := f s.env s.dials[i]
  (s.setDialLine i x).reports (dialReports i s.dials[i] x s.env)

/-- R174: every line is evaluated, 1 to 4 in ascending order (DESIGN CHOICE, notes/assumptions/51.md). -/
def State.dialsEvaluate (s : State) : State := allFour.foldl (fun s i => s.dial i DialLine.evaluate) s

/-! ## Second, minute, day and step events (R4, R5, R7) -/

/-- R60: every record is evaluated, in table order, each as a cause of its own. -/
def World.evaluateAll (e : Env) (w : World) : World :=
  (w.services.map (·.code)).foldl (fun w code => (w.evaluateOne code e).settleWork e) w

/-- R141: the anchors of every cue are judged. -/
def World.anchors (e : Env) (w : World) : World := w.judgeAnchors (fun _ => true) e

/-- R4: a minute event, delivered to the Composer, the Dial Drivers, the Cue Scheduler and the Notice List (DEDUCED, notes/assumptions/17.md). -/
def State.minuteEvent (s : State) : State :=
  (((s.work (World.composed .minute true)).dialsEvaluate).work World.anchors).work World.noticeEvent

/-- R69, R74, R94: what a day roll does to the Service Table, the Notice List and, with the minute mark, the Composer. -/
def World.dayRoll (e : Env) (w : World) : World :=
  let w := w.rollServices e
  let (w, _) := { w with notices := w.notices.map Notice.lowered }.decideNotices e
  w.composed .every true e

/-- R7: the consequences of a step, in their order (DEDUCED, notes/assumptions/17.md). -/
def State.stepped (r : Stepped) (s : State) : State :=
  let s := if r.dayRoll then s.work World.dayRoll else s
  ((((s.work World.evaluateAll).work (World.composed .every r.minuteChanged)).dialsEvaluate).work
    World.noticeEvent).work World.anchors

/-- The Time Base has moved T, or not (R7). -/
def State.stepTime (t : TimeBase) (raised : Option Stepped) (s : State) : State :=
  let s := s.setTime t
  match raised with
  | some r => s.stepped r
  | none => s

/-- R4, R5: running T has passed the whole second b: the day roll first, then the second and the minute (DEDUCED, notes/assumptions/17.md). -/
def State.boundary (b : Nat) (s : State) : State :=
  let s :=
    if b == s.time.dayBoundary then
      let (t, roll) := s.time.reachDay
      if roll then (s.setTime t).work World.dayRoll else s.setTime t
    else s
  let s := s.work World.evaluateAll
  if b % Config.minuteUs == 0 then s.minuteEvent else s

/-- The oldest boundary whose second event has not been raised is taken (DESIGN CHOICE, notes/assumptions/2.md). -/
def State.takeBoundary (s : State) : State :=
  match s.time.due with
  | [] => s
  | b :: rest => (s.setTime { s.time with due := rest }).boundary b

/-! ## Lines (R28, R13) -/

/-- R28: a qualified edge is delivered, with t_q in microseconds (DESIGN CHOICE, notes/assumptions/36.md). A DISPATCH edge reaches
the Lifecycle Sequencer first and then the Cue Scheduler (DESIGN CHOICE, notes/assumptions/38.md). -/
def State.deliverEdge (i : LineNo) (stamp : Nat) (s : State) : State :=
  let role := s.lines[i].role
  let carried := orNone s.env.valid s.env.station
  let s := match role with
    | .dispatch p => s.work fun e w => w.dispatch p (i.val + 1) stamp carried e
    | _ => s
  s.work fun e w => w.edge (i.val + 1) role.approachPlatform stamp e

/-- R13: an accepted reference pulse reaches the Time Base. -/
def State.acceptPulse (capture edge : Nat) (s : State) : State :=
  let (t, mayAct) := s.time.countPulse edge
  let s := (s.setTime t).reports (refReports s.time t)
  if mayAct && s.env.valid && !t.stale edge then
    let (t, raised) := t.discipline capture
    match raised with
    | none => s.setTime t
    | some (delta, r) => ((s.setTime t).stepped r).reports [.timeStepped delta (t.station / 1000)]
  else s

/-- What a monitor gives at an event, after its own change. Where one bridging edge both qualifies a level and finds it stuck,
the qualified edge is given first (R25). -/
def State.hear (i : LineNo) (x : Hearing) (s : State) : State :=
  let s := s.setLine i x.1
  let s := match x.2.edge, x.2.pulse with
    | some t, _ => s.deliverEdge i t
    | none, some (capture, edge) => s.acceptPulse capture edge
    | none, none => s
  s.reports x.2.alarms

/-- A timer of the engine: with the timer absent nothing happens at all; otherwise the expiry comes at its moment (DESIGN CHOICE, notes/assumptions/1.md). -/
def State.expiry (timer : Option Nat) (f : Nat → State → State) (s : State) : State :=
  match timer with
  | none => s
  | some t => (f t (s.begin t)).close

/-- A line is silent for `dt`: what the silence brings comes at its own moment where that lies in the silence, and the step ends there;
otherwise the time passes and nothing else happens (DESIGN CHOICE, notes/assumptions/1.md). -/
def State.silence (dt : Nat) (timer : Option Nat) (f : Nat → State → State) (s : State) : State :=
  if timer.any fun t => decide (t ≤ s.time.elapsed + dt) then s.expiry timer f else (s.after dt).close

end Sys2Proof.Machine
end

