-- ==== Sys2Proof/Machine/Query.lean ====
section
/-! DEFINITION. Machine/Query.lean: QUERY (R185): for each of its eighteen subjects the reply's fields as bytes, in the order in which
the subject's own rule names them (R187). A query changes nothing. -/

namespace Sys2Proof.Machine

/-! ## Fields -/

/-- An elapsed time in milliseconds, in 8 bytes. -/
def msField (us : Nat) : List Byte := le 8 (us / 1000)

/-- The elapsed time of a timer, or none. -/
def timerField (t : Option Nat) : List Byte := optField msField t

def seqField (s : Seq) : List Byte := le 4 s.toNat

/-! ## Time and lines -/

/-- R20: the time status. -/
def queryTime (s : State) : List Byte :=
  let t := s.time
  le 1 t.validity.code ++ le 4 s.env.reportMs ++ le 2 t.dayStart ++ flagByte t.rollHeld ++ le 1 t.mode.code ++
    le 1 t.refState.code ++ leInt 2 t.trim ++ flagByte t.trimLimit ++ leInt 4 t.slew ++ optField (leInt 4) t.pendingStep ++
    optField (leInt 4) t.lastError ++ msField t.elapsed

/-- A role with its platform (R187); the numbers are those of `Role.ofCode` (DESIGN CHOICE, notes/assumptions/45.md). -/
def roleBytes : Role → List Byte
  | .none => le 1 0
  | .approach p => le 1 1 ++ le 1 p
  | .dispatch p => le 1 2 ++ le 1 p

/-- R30, R31: the settings of a line. -/
def lineSettings (i : LineNo) (m : Monitor) (w : RefWindows) : List Byte :=
  if i == refLine then
    le 1 m.polarity.code ++ le 2 m.minLow ++ le 2 m.maxHigh ++ le 2 w.secLo ++ le 2 w.secHi ++ le 2 w.minLo ++
      le 2 w.minHi
  else le 1 m.polarity.code ++ le 2 m.minHigh ++ le 2 m.maxHigh ++ le 2 m.minLow

/-- R33: the thirteen lines, each with a HIGH_LONG flag, clear on an event line (DESIGN CHOICE, notes/assumptions/65.md). -/
def queryLines (s : State) : List Byte :=
  allLines.flatMap fun i =>
    let m := s.lines[i]
    lineSettings i m s.refWindows ++ roleBytes m.role ++ le 1 m.state.code ++ le 2 m.lastHigh ++ le 2 m.lastLow ++
      flagByte m.highShort ++ flagByte m.highLong ++ flagByte m.stuck ++ le 2 m.glitches

/-! ## Tables -/

/-- R52: the table summary. -/
def queryTable (w : World) : List Byte :=
  listField (fun r : Service => le 2 r.code ++ le 1 r.state.code ++ leInt 2 r.effSm ++ seqField r.rev) w.services ++
    le 1 w.services.length ++ seqField w.tableSeq

/-- R52: every field of one record (3.1, then R64's). -/
def queryService (r : Service) : List Byte :=
  le 2 r.code ++ le 2 r.schedHm ++ leInt 2 r.schedSm ++ le 2 r.delay.code ++ leInt 2 r.effSm ++ le 1 r.platform ++
    le 1 r.side.code ++ optField (le 1) (r.prev.map (·.1)) ++ optField (fun x : Side => le 1 x.code) (r.prev.map (·.2)) ++
    optField (le 4) r.changeMs ++ le 1 r.dest ++ listField (le 1) r.vias ++ optField (le 1) r.remark ++ le 1 r.operator ++
    le 1 r.boardLead ++ le 1 r.state.code ++ flagByte r.overdue ++ flagByte r.attention ++ optField (le 4) r.departedMs ++
    optField (fun d : Delay => le 2 d.code) r.announced ++ seqField r.rev ++
    optField (fun c : ChangeCue => le 2 c.handle ++ flagByte c.heard) r.changeCue

/-- R58: the pool summary. Each stored text gives its index, then its length and use count (DESIGN CHOICE, notes/assumptions/67.md). -/
def queryPool (w : World) : List Byte :=
  le 2 w.freeCells ++ le 1 w.texts.length ++
    listField (fun t : StoredText => le 1 t.index ++ le 1 t.chars.length ++ le 2 t.uses) w.texts

/-- R58: one text. -/
def queryText (t : StoredText) : List Byte := textField t.chars ++ le 1 t.cells ++ le 2 t.uses

/-- R59. -/
def queryLifecycle (p : Lifecycle) : List Byte :=
  le 1 p.boardLead ++ le 2 p.closeLead ++ le 2 p.departedHold ++ le 1 p.cancelHold ++ le 1 p.abandon ++
    le 1 p.changeDisplay

/-- R76. A start offset falls by a day at every day roll (R72), without bound where the notice has no end. -/
def queryNotices (w : World) : List Byte :=
  listField (fun n : Notice =>
    le 1 n.id ++ le 1 n.text ++ scopeField n.scope ++ le 1 n.priority ++ optField (le 4) n.startMs ++
      optField (le 4) n.endMs ++ le 1 n.period ++ optField (leInt 8) n.startOff ++ optField (leInt 4) n.endOff ++
      flagByte n.active ++ seqField n.rev) w.notices

/-! ## The wall -/

/-- R78: a source with its parameters as a VIEW_SET gives it. -/
def Source.asGiven : Source → SourceReq
  | .departures m d c o => .departures m d c o
  | .platform p => .platform p
  | .clock => .clock
  | .ticker m => .ticker m
  | .fixed t => .fixed t

/-- R97: one window with its page state, behind the parameters of its source (DESIGN CHOICE, notes/assumptions/56.md); the page count
of a disabled window is reckoned as if it were enabled (DESIGN CHOICE, notes/assumptions/55.md). -/
def windowStatus (w : World) (total : Nat) (x : Window) : List Byte :=
  windowField
      { enabled := x.enabled, firstRow := x.firstRow, rowCount := x.rowCount, source := x.source.asGiven,
        period := x.period } ++
    le 1 x.pageIndex ++ le 1 (pageCount w x (x.rowsIn total)) ++ timerField x.pageTimer

/-- R185: as many whole row records as fit in `room` bytes. -/
def fitRows : Nat → List RowRec → List RowRec
  | _, [] => []
  | room, r :: rest =>
    let n := (rowField r).length
    if n ≤ room then r :: fitRows (room - n) rest else []

/-- R185: rows from the first on; the reply's status and flags, what stands before and after and the count take room too. -/
def rowsReply (before after : List Byte) (first count : Nat) (rows : List RowRec) : List Byte :=
  let room := Config.maxReplyBody - (before.length + after.length + 3)
  before ++ listField rowField (fitRows room ((rows.drop first).take count)) ++ after

/-- R97. -/
def queryView (n : StringNo) (first count : Nat) (w : World) : List Byte :=
  let total := w.rowTotal n
  let v := w.view n
  let windows := allFour.flatMap fun i => windowStatus w total v.windows[i]
  rowsReply (le 1 total ++ windows) (le 1 w.dueHorizon) first count v.targets

/-- R119: one string of the commit status. -/
def stringStatus (w : World) (n : StringNo) : List Byte :=
  let x := w.wall n
  le 1 x.lit.code ++ flagByte x.restage ++ le 1 x.part.code ++ optField (fun c : FailCause => le 1 c.code) x.cause ++
    le 1 x.staged.length ++ le 1 (x.staged.filter (·.acked)).length ++ le 1 (w.dirty n).length

/-- R119. -/
def queryCommit (w : World) : List Byte :=
  let c := w.commit
  le 1 c.state.code ++ seqField c.commitSeq ++ seqField c.wallSeq ++ seqField w.tableSeq ++ le 2 c.generation.toNat ++
    flagByte c.minutePending ++ le 1 (if c.batchOpen then 1 else 0) ++ timerField c.batchTimer ++ timerField c.sweepTimer ++
    optField (fun n : StringNo => le 1 (n.val + 1)) c.sweepPos ++ le 2 c.settings.settle ++ le 2 c.settings.deadline ++
    le 1 c.settings.stagger ++ le 1 c.settings.batchLimit ++ le 1 c.settings.refresh ++ switchByte c.settings.reports ++
    allStrings.flatMap (stringStatus w)

/-- R119: the shown rows of a string. -/
def queryShown (n : StringNo) (first count : Nat) (w : World) : List Byte :=
  rowsReply [] [] first count (w.wall n).shown

/-- R137: the exchange on the line. The frame kind is numbered from 0 in the order in which R124 lists the kinds, STAGE_ROW 0 and POLL 1,
and not by the kind byte of the string link frame (11.5) (DESIGN CHOICE, notes/assumptions/71.md). -/
def exchangeField (x : Exchange) : List Byte :=
  le 1 (if x.frame.isStage then 0 else 1) ++ le 1 x.frame.moduleNo ++
    optField (le 1) (match x.frame with
      | .stageRow _ _ row _ => some row
      | .poll _ => none) ++ le 1 x.attempt

/-- R137. The level of BSY*n* is coded as a flag, 1 for asserted (DESIGN CHOICE, notes/assumptions/47.md). -/
def queryChannel (c : Channel) : List Byte :=
  let s := c.settings
  le 1 s.modules ++ le 1 s.rows ++ le 2 s.divI ++ le 1 s.divF ++ le 1 s.group.code ++ le 1 s.flow.code ++ [s.pause] ++
    [s.resume] ++ le 1 s.timeout ++ le 1 s.retries ++ switchByte s.enabled ++ le 1 c.state.code ++
    le 1 (c.waitingFrames.filter (·.frame.isStage)).length ++ flagByte (c.waitingFrames.any (!·.frame.isStage)) ++
    optField exchangeField c.exchange ++ flagByte c.flowStopped ++ flagByte c.busy ++ timerField c.holdTimer ++
    timerField c.faultTimer ++ timerField c.pollTimer ++ le 1 c.pollPtr ++ le 2 c.timedOut ++ le 2 c.voids ++
    le 2 c.rejects ++ flagByte c.test.isSome ++
    listField (fun m : ModuleRec =>
      le 1 m.health.code ++ le 1 m.missed ++ moduleFlagFields m.flags ++ flagByte m.reject) c.fitted

/-! ## Announcements -/

/-- R156: every field of a cue (R138). -/
def cueField (c : Cue) : List Byte :=
  le 2 c.handle ++ le 1 c.slot ++ le 1 c.origin.code ++ le 1 c.kind.code ++ le 2 c.subject ++ le 1 c.mode.code ++
    optField (le 1) c.line ++ optField (le 2) c.delayS ++ optField (le 2) c.periodS ++ optField (le 1) c.repeatsLeft ++
    optField (le 1) c.leadMin ++ [c.zones] ++ le 1 c.priority ++ seqField c.seq ++ optField (le 1) c.oldPlatform ++
    timerField c.timer ++ timerField c.queuedAt ++ optField (fun d : Delay => le 2 d.code) c.startedDelay ++
    flagByte c.preempted ++ le 1 c.state.code

/-- R156. -/
def queryCues (w : World) : List Byte := listField cueField w.cues ++ le 2 w.nextHandle

def kindPolicyField (k : KindPolicy) : List Byte := flagByte k.enable ++ le 1 k.priority

/-- R145. -/
def queryPolicy (p : CuePolicy) : List Byte :=
  kindPolicyField p.platformChange ++ kindPolicyField p.delay ++ le 1 p.delayThreshold ++ le 1 p.delayStep ++
    le 1 p.delayPeriod ++ le 1 p.delayRepeats ++ kindPolicyField p.boarding ++ kindPolicyField p.approach ++
    le 1 p.approachLead ++ le 2 p.approachDelay ++ kindPolicyField p.cancellation ++ kindPolicyField p.notice

/-- R146. -/
def queryZones (w : World) : List Byte := w.zoneMap ++ [w.concourse]

def playField (p : Play) : List Byte :=
  le 2 p.handle ++ le 1 p.kind.code ++ le 2 p.subject ++ [p.zones] ++ le 1 p.priority

/-- R170. The QUEUED cues come in slot order (DESIGN CHOICE, notes/assumptions/59.md), and their `queued_at`, which every QUEUED cue
has, without a presence byte (DESIGN CHOICE, notes/assumptions/60.md). -/
def queryAnnounce (e : Env) (w : World) : List Byte :=
  let a := w.au
  (allFour.flatMap fun i =>
      let x := a.channels[i]
      le 1 x.phase.code ++ optField playField x.play ++ timerField x.timer) ++
    [a.occupied] ++ le 1 (if a.available then 0 else 1) ++ le 1 a.timeouts ++ timerField a.statusTimer ++
    optField (fun b : Byte => [b]) a.unitStatus ++ le 2 a.startTimeout ++ le 2 a.playLimit ++ le 2 a.stopWait ++
    le 2 a.received ++ le 2 a.discarded ++ le 2 a.stray ++
    listField (fun c : Cue => le 2 c.handle ++ le 1 c.slot ++ msField (c.queuedAt.getD 0) ++ le 1 (c.effective e.now))
      (w.cues.filter (·.state == .queued))

/-! ## Dials and the link -/

/-- R177. -/
def queryDials (s : State) : List Byte :=
  allFour.flatMap fun i =>
    let x := s.dials[i]
    switchByte x.enabled ++ le 2 x.width ++ le 1 x.state.code ++ le 2 x.dial ++ le 1 x.next.code ++ le 2 x.distance ++
      le 1 x.drive.code ++ timerField x.timer ++
      optField (fun p : Nat × Impulse => le 2 p.1 ++ le 1 p.2.code) x.pending

/-- R185: LINK. The queue occupancy is that of the request queue (DESIGN CHOICE, notes/assumptions/64.md). The levels of PART_READY and
HOST_READY are coded as flags, 1 for asserted (DESIGN CHOICE, notes/assumptions/47.md). -/
def queryLink (l : Link) : List Byte :=
  le 4 l.rate ++ le 1 l.queue.length ++ flagByte l.partReady ++ flagByte l.hostReady ++ le 2 l.reportSeq.toNat ++
    le 2 l.dropped.toNat ++ le 2 l.losses.badLength ++ le 2 l.losses.framing ++ le 2 l.losses.gap ++
    le 2 l.losses.badCheck ++ le 2 l.losses.queueFull

/-! ## The request -/

/-- A subject about one string, 1..16. -/
def aboutString (number : Nat) (f : StringNo → List Byte) : Verdict (List Byte) :=
  match stringOf number with
  | some n => taken (f n)
  | none => refuse .outOfRange

/-- A subject about one entry of a table: 0 names none, another number may name nothing stored. -/
def aboutEntry {α : Type} (number : Nat) (entry : Option α) (f : α → List Byte) : Verdict (List Byte) :=
  if number = 0 then refuse .outOfRange
  else match entry with
    | some x => taken (f x)
    | none => refuse .notFound

/-- R185: the subjects in their order, and what each returns (DEDUCED, notes/assumptions/14.md). -/
def State.query (subject parameter first count : Nat) (s : State) : Verdict (List Byte) :=
  match subject with
  | 0 => taken (queryTime s)
  | 1 => taken (queryLines s)
  | 2 => taken (queryTable s.world)
  | 3 => aboutEntry parameter (s.world.service parameter) queryService
  | 4 => taken (queryPool s.world)
  | 5 => aboutEntry parameter (s.world.text parameter) queryText
  | 6 => taken (queryLifecycle s.world.policy)
  | 7 => taken (queryNotices s.world)
  | 8 => aboutString parameter fun n => queryView n first count s.world
  | 9 => taken (queryCommit s.world)
  | 10 => aboutString parameter fun n => queryShown n first count s.world
  | 11 => aboutString parameter fun n => queryChannel (s.world.channel n)
  | 12 => taken (queryCues s.world)
  | 13 => taken (queryPolicy s.world.cuePolicy)
  | 14 => taken (queryZones s.world)
  | 15 => taken (queryAnnounce s.env s.world)
  | 16 => taken (queryDials s)
  | 17 => taken (queryLink s.link)
  | _ => refuse .outOfRange

end Sys2Proof.Machine
end

