-- ==== Sys2Proof/Machine/WallRequests.lean ====
section
/-! DEFINITION. Machine/WallRequests.lean: the requests and expiries of the Composer and the Commit Controller (chapters 5 and 6):
VIEW_SET, COMPOSE_SET, page turns, settling, batches, the refresh sweep and COMMIT_SET. -/

namespace Sys2Proof.Machine

/-! ## VIEW_SET (R79, R80) -/

/-- R79, check 2: the source of a window record, its parameters in range. -/
def sourceOf : SourceReq → Option Source
  | .departures m d c o => if m == 0#48 || decide (127 < o) then none else some (.departures m d c o)
  | .platform p => if 1 ≤ p ∧ p ≤ 48 then some (.platform p) else none
  | .clock => some .clock
  | .ticker m => some (.ticker m)
  | .fixed t => if t = 0 then none else some (.fixed t)
  | .unknown _ => none

/-- R79: a page period as taken. -/
def pagePeriod (n : Nat) : Nat := if n = 0 then 0 else clamp 5 60 n

/-- R79, check 2: a window record in its ranges. -/
def windowOf (r : WindowReq) : Option Window :=
  if r.firstRow ≤ 47 ∧ 1 ≤ r.rowCount ∧ r.rowCount ≤ 48 then
    (sourceOf r.source).map fun source =>
      { enabled := r.enabled, firstRow := r.firstRow, rowCount := r.rowCount, source, period := pagePeriod r.period,
        pageIndex := 0, pageTimer := none }
  else none

/-- R79, check 3: an enabled window does not fit below the row total. -/
def Window.tooLow (total : Nat) (x : Window) : Bool := x.enabled && decide (total < x.firstRow + x.rowCount)

/-- R79, check 4: two enabled windows cover a common row. -/
def Window.meets (a b : Window) : Bool :=
  a.enabled && b.enabled && decide (a.firstRow < b.firstRow + b.rowCount) && decide (b.firstRow < a.firstRow + a.rowCount)

/-- R80: the records agree in all fields but the page index. -/
def Window.sameRecord (a b : Window) : Bool :=
  a.enabled == b.enabled && a.firstRow == b.firstRow && a.rowCount == b.rowCount && a.source == b.source &&
    a.period == b.period

/-- R80: a slot keeps its page state where its record is unchanged. -/
def Window.replacedBy (old new : Window) (e : Env) : Window :=
  if old.sameRecord new then old
  else { new with pageTimer := if new.enabled && new.period != 0 then some (e.inSec new.period) else none }

/-- R80: four window records take the place of a string's own. -/
def World.applyView (n : StringNo) (a b c d : Window) (e : Env) (w : World) : World :=
  let v := w.view n
  let windows : Vector Window 4 :=
    #v[v.windows[0].replacedBy a e, v.windows[1].replacedBy b e, v.windows[2].replacedBy c e, v.windows[3].replacedBy d e]
  if v.windows[0].sameRecord a && v.windows[1].sameRecord b && v.windows[2].sameRecord c && v.windows[3].sameRecord d then w
  else
    let (w, changed) := (w.setView n { v with windows }).composeString n e
    w.tell changed false e

/-- VIEW_SET. -/
def World.viewSet (string : Nat) (w0 w1 w2 w3 : WindowReq) (e : Env) (w : World) : Verdict World :=
  match stringOf string, windowOf w0, windowOf w1, windowOf w2, windowOf w3 with
  | some n, some a, some b, some c, some d =>
    let total := w.rowTotal n
    if a.tooLow total || b.tooLow total || c.tooLow total || d.tooLow total then refuse .outOfRange
    else if a.meets b || a.meets c || a.meets d || b.meets c || b.meets d || c.meets d then refuse .conflict
    else
      .take (a.period != w0.period || b.period != w1.period || c.period != w2.period || d.period != w3.period) .empty
        (w.applyView n a b c d e)
  | _, _, _, _, _ => refuse .outOfRange

/-- COMPOSE_SET (R93). -/
def World.composeSet (minutes : Nat) (e : Env) (w : World) : Verdict World :=
  let h := min 60 minutes
  .take (h != minutes) .empty
    (if h = w.dueHorizon then w else { w with dueHorizon := h }.composed .platforms false e)

/-- R88, R89: the page index after an expiry. -/
def Window.turned (w : World) (total : Nat) (x : Window) : Window :=
  { x with pageIndex := (x.pageIndex + 1) % pageCount w x (x.rowsIn total) }

/-- R88: the source turns pages. -/
def Source.rotates : Source → Bool
  | .departures _ _ _ _ => true
  | .ticker _ => true
  | _ => false

/-- R88: the page timer of a window has expired at `expiry`. -/
def World.pageExpired (n : StringNo) (slot : Fin 4) (expiry : Nat) (e : Env) (w : World) : World :=
  let v := w.view n
  let total := w.rowTotal n
  let x := { v.windows[slot] with pageTimer := some (expiry + v.windows[slot].period * Config.secondUs) }
  let put (x : Window) : View := { v with windows := v.windows.set slot x }
  if x.source.rotates then
    let new := composeWindow e w total slot (put (x.turned w total))
    (w.setView n new).tell (new.targets != v.targets) false e
  else w.setView n (put x)

/-! ## Settling, staging, latching and the sweep -/

/-- R102: the settle timer has expired. -/
def World.settleExpired (e : Env) (w : World) : World :=
  { w with commit := { w.commit with settleTimer := none } }.stageIfSettled e

/-- R100, R111: the pulse on a latch line has ended. -/
def World.pulseEnded (n : StringNo) (e : Env) (w : World) : World :=
  (w.setLatch n ((w.latch n).next e.now)).finishIfDone e

/-- BATCH_OPEN (R103). -/
def World.openBatch (e : Env) (w : World) : Verdict World :=
  if w.commit.batchOpen then refuse .wrongState
  else
    taken { w with
      commit := { w.commit with batchOpen := true, batchTimer := some (e.inSec w.commit.settings.batchLimit) } }

/-- R104: the batch becomes CLOSED, which may end SETTLING. -/
def World.endBatch (e : Env) (w : World) : World :=
  { w with commit := { w.commit with batchOpen := false, batchTimer := none } }.stageIfSettled e

/-- BATCH_CLOSE (R104). -/
def World.closeBatch (e : Env) (w : World) : Verdict World :=
  if w.commit.batchOpen then taken (w.endBatch e) else refuse .wrongState

/-- R104: the batch limit timer has expired. -/
def World.expireBatch (e : Env) (w : World) : World := (w.report (.batchExpired e.nowMs w.tableSeq)).endBatch e

/-- R115: the strings in round-robin order after a position. -/
def roundRobin : Option StringNo → List StringNo
  | none => allStrings
  | some p => allStrings.filter (fun n => p < n) ++ allStrings.filter (fun n => n ≤ p)

/-- R115: the sweep timer has expired at `expiry`. -/
def World.sweep (expiry : Nat) (e : Env) (w : World) : World :=
  let w := { w with commit := { w.commit with sweepTimer := some (expiry + w.commit.settings.refresh * Config.secondUs) } }
  match (roundRobin w.commit.sweepPos).find? fun n => (w.channel n).settings.enabled && (w.wall n).lit == .lit with
  | some n => { w with commit := { w.commit with sweepPos := some n } }.restageAll n e
  | none => w

/-- R117: the settings as taken. -/
def commitSettings (r : CommitSetReq) : CommitSettings where
  settle := stepClamp 50 0 2000 r.settle
  deadline := stepClamp 100 500 5000 r.deadline
  stagger := stepClamp 10 0 200 r.stagger
  batchLimit := stepClamp 1 1 30 r.batchLimit
  refresh := stepClamp 1 0 60 r.refresh
  reports := r.reports

/-- COMMIT_SET (R117): a change sets the sweep timer afresh (DEDUCED, notes/assumptions/23.md). -/
def World.commitSet (r : CommitSetReq) (e : Env) (w : World) : Verdict World :=
  let x := commitSettings r
  let adjusted := x.settle != r.settle || x.deadline != r.deadline || x.stagger != r.stagger ||
    x.batchLimit != r.batchLimit || x.refresh != r.refresh
  .take adjusted .empty
    (if x == w.commit.settings then w
      else { w with
        commit := { w.commit with
          settings := x
          sweepTimer := if x.refresh = 0 then none else some (e.inSec x.refresh) } })

end Sys2Proof.Machine
end

