-- ==== Sys2Proof/Machine/Link.lean ====
section
/-! DEFINITION. Machine/Link.lean: the Control Link (chapter 11): the receiver, lost frames, the request queue with PART_READY, the
dispatch of a request to its owner and its reply, RESTART, and the owners' requests that act outside the departure
picture. -/

namespace Sys2Proof.Machine

/-! ## Requests of the Time Base, the Line Monitor, the Dial Drivers and the link -/

/-- A request decided by a block of the departure picture. -/
def State.ask (f : Env → World → Verdict World) (s : State) : Verdict State :=
  (f s.env s.world).map fun w => s.setWorld (w.settleWork s.env)

/-- TIME_SET (R8 to R10). -/
def State.timeSet (h : Nat) (s : State) : Verdict State :=
  if 86399999 < h then refuse .outOfRange
  else
    let (t, raised) := s.time.timeSet h
    taken (s.stepTime t raised)

/-- TIME_STEP (R11). -/
def State.timeStep (minutes : Int) (s : State) : Verdict State :=
  if minutes = 0 ∨ minutes < -1440 ∨ 1440 < minutes then refuse .outOfRange
  else if s.time.validity == .unsetTime then refuse .wrongState
  else
    let (t, raised) := s.time.stepBy (minutes * Config.minuteUs)
    taken (s.stepTime t raised)

/-- CLOCK_SET (R12). An unknown mode is refused OUT_OF_RANGE, before D is judged (DESIGN CHOICE, notes/assumptions/36.md). -/
def State.clockSet (mode d : Nat) (s : State) : Verdict State :=
  match RefMode.ofCode mode with
  | none => refuse .outOfRange
  | some m =>
    if 1439 < d then refuse .outOfRange
    else if d ≠ s.time.dayStart ∧ (!s.world.services.isEmpty || !s.world.notices.isEmpty) = true then refuse .wrongState
    else
      let t := (s.time.setDayStart d).setMode m
      taken ((s.setTime t).reports (refReports s.time t))

/-- LINE_SET (R30, R31). -/
def State.lineSet (r : LineSetReq) (s : State) : Verdict State :=
  match r with
  | .event line polarity minHigh maxHigh minLow role platform =>
    if h : 1 ≤ line ∧ line ≤ 12 then
      let i : LineNo := ⟨line - 1, by omega⟩
      (s.lines[i].setEvent polarity minHigh maxHigh minLow role platform s.time.elapsed).map fun m => s.setLine i m
    else refuse .outOfRange
  | .ref _ _ _ _ _ _ _ _ =>
    (s.lines[refLine].setRef r s.time.elapsed).map fun (m, w) => { s.setLine refLine m with refWindows := w }

/-- LINE_CLEAR (R33): bit n - 1 for EL n and bit 12 for REF (R187). A set with a bit above 12 is refused OUT_OF_RANGE (DESIGN
CHOICE, notes/assumptions/36.md). -/
def State.lineClear (set : Nat) (s : State) : Verdict State :=
  if set = 0 ∨ 8192 ≤ set then refuse .outOfRange
  else
    taken (allLines.foldl (fun s i => if set.testBit i.val then s.setLine i s.lines[i].clearFlags else s) s)

/-- DIAL_LINE_SET (R172). -/
def State.dialLineSet (line : Nat) (enable : Bool) (width : Nat) (s : State) : Verdict State :=
  match dialOf line with
  | none => refuse .outOfRange
  | some i =>
    let x := stepClamp 50 100 2000 width
    .take (x != width) .empty (s.dial i (DialLine.setLine enable x))

/-- DIAL_SET (R173). -/
def State.dialSet (line dial polarity : Nat) (s : State) : Verdict State :=
  match dialOf line, Impulse.ofCode polarity with
  | some i, some next => if 719 < dial then refuse .outOfRange else taken (s.dial i (DialLine.setDial dial next))
  | _, _ => refuse .outOfRange

/-- R178: the rates. -/
def linkRates : List Nat := [9600, 19200, 38400, 57600, 115200, 230400, 460800]

/-- LINK_SET (R178): the new rate applies once the reply has been sent. -/
def State.linkSet (rate : Nat) (s : State) : Verdict State :=
  if linkRates.contains rate then taken (s.setLink { s.link with newRate := some rate }) else refuse .outOfRange

/-- QUERY (R185). -/
def State.ownQuery (subject parameter first count : Nat) (s : State) : Verdict State :=
  match s.query subject parameter first count with
  | .refuse st b => .refuse st b
  | .take _ _ bytes => .take false (.query bytes) s

/-- R186: the departure picture and the announcement work are emptied, in the rule's order. -/
def World.restart (e : Env) (w : World) : World :=
  let w := (w.emptyTables.restartCommit e)
  let (w, changed) := w.composeAll e
  (w.tell changed false e).restartAnnounce e

/-- RESTART (R186): at the placing of its reply every report that waits is discarded (DEDUCED, notes/assumptions/26.md). -/
def State.restart (s : State) : State :=
  let s := s.work World.restart
  let s := allLines.foldl (fun s i => s.setLine i s.lines[i].restart) s
  (s.setWorld { s.world with out := [] }).setLink { s.link with reports := [] }

/-! ## Dispatch (R182) -/

/-- R182: the owner of a request decides it. -/
def State.decideRequest (r : Request) (s : State) : Verdict State :=
  match r with
  | .timeSet h => s.timeSet h
  | .timeStep m => s.timeStep m
  | .clockSet mode d => s.clockSet mode d
  | .lineSet r => s.lineSet r
  | .lineClear set => s.lineClear set
  | .servicePut r => s.ask (World.servicePut r)
  | .serviceAmend r => s.ask (World.serviceAmend r)
  | .serviceDrop code => s.ask (World.serviceDrop code)
  | .textPut index chars => s.ask (World.textPut index chars)
  | .textDrop index => s.ask (World.textDrop index)
  | .lifecycleSet r => s.ask (World.lifecycleSet r)
  | .noticePut r => s.ask (World.noticePut r)
  | .noticeDrop id => s.ask (World.noticeDrop id)
  | .viewSet n a b c d => s.ask (World.viewSet n a b c d)
  | .composeSet m => s.ask (World.composeSet m)
  | .batchOpen => s.ask World.openBatch
  | .batchClose => s.ask World.closeBatch
  | .commitSet r => s.ask (World.commitSet r)
  | .stringSet r => s.ask (World.stringSet r)
  | .linkTest n => s.ask (World.linkTest n)
  | .policySet r => s.ask (World.policySet r)
  | .zoneMapSet p c => s.ask (World.zoneMapSet p c)
  | .cuePut r => s.ask (World.cuePut r)
  | .cueCancel h => s.ask (World.cueCancel h)
  | .auSet a b c => s.ask (World.auSet a b c)
  | .dialLineSet l en width => s.dialLineSet l en width
  | .dialSet l d p => s.dialSet l d p
  | .query a b c d => s.ownQuery a b c d
  | .restart => taken s.restart
  | .linkSet rate => s.linkSet rate
  | .malformed => refuse .malformed
  | .unknownKind => refuse .unknownKind

/-- 11.5: a reply's kind is its request's kind with bit 7 set. -/
def replyKind (kind : Nat) : Nat := if kind < 128 then kind + 128 else kind

/-- R181: the queue after a request joined it: PART_READY is negated when the number held reaches 6. -/
def Link.enqueue (q : QueuedRequest) (l : Link) : Link :=
  let queue := l.queue ++ [q]
  { l with queue, partReady := l.partReady && decide (queue.length < 6) }

/-- R181: the queue after its head left: PART_READY is asserted again when the number held falls to 3. -/
def Link.dequeue (rest : List QueuedRequest) (l : Link) : Link :=
  { l with queue := rest, partReady := l.partReady || decide (rest.length ≤ 3) }

/-- R182, R183: a verdict as a reply in the reply slot. -/
def State.answer (q : QueuedRequest) (v : Verdict State) (s : State) : State :=
  let put (status : Status) (adjusted : Bool) (body : ReplyBody) (s : State) : State :=
    s.setLink { s.link with slot := some { kind := replyKind q.kind, tag := q.tag, status, adjusted, body } }
  match v with
  | .refuse status body => put status false body s
  | .take adjusted body left => put .ok adjusted body left

/-- R182: the head request is dispatched once the reply slot is empty. -/
def State.dispatchNext (s : State) : State :=
  match s.link.slot, s.link.queue with
  | none, q :: rest =>
    let s := s.setLink (s.link.dequeue rest)
    s.answer q (s.decideRequest q.request)
  | _, _ => s

/-! ## The receiver (R179, R180) -/

/-- R180: the count of a cause. -/
def LossCounts.count (l : LossCounts) : LossCause → Nat
  | .badLength => l.badLength
  | .framing => l.framing
  | .gap => l.gap
  | .badCheck => l.badCheck
  | .queueFull => l.queueFull

/-- R180: the count of a cause rises by one, stopping at 65,535. -/
def LossCounts.bump (l : LossCounts) : LossCause → LossCounts
  | .badLength => { l with badLength := satSucc l.badLength }
  | .framing => { l with framing := satSucc l.framing }
  | .gap => { l with gap := satSucc l.gap }
  | .badCheck => { l with badCheck := satSucc l.badCheck }
  | .queueFull => { l with queueFull := satSucc l.queueFull }

/-- R180: a frame is lost. -/
def State.lose (cause : LossCause) (kind tag : Nat) (s : State) : State :=
  let losses := s.link.losses.bump cause
  (s.setLink { s.link with losses }).reports [.linkError cause kind tag (losses.count cause) s.env.nowMs]

/-- R179: a complete frame joins the request queue or is lost, and is dispatched where it may be. -/
def State.arrive (kind tag : Nat) (r : Request) (s : State) : State :=
  if s.link.queue.length < Config.requestDepth then
    (s.setLink (s.link.enqueue { kind, tag, request := r })).dispatchNext
  else s.lose .queueFull kind tag

/-- A character on CL_RXD. The LINK_ERROR of a frame it loses is placed before the next character is taken, so that a RESTART behind it
finds that report in the queue, or on its way (R186). -/
def State.character (c : RxChar) (s : State) : State :=
  let (rx, ev) := s.link.rx.take c
  let s := s.setLink { s.link with rx, rxAt := rx.keeps s.time.elapsed }
  match ev with
  | .nothing => s
  | .frame kind tag body => s.arrive kind tag (parseRequest kind body)
  | .lost cause kind tag => (s.lose cause kind tag).close

/-- R180: the moment at which more than four byte times have passed since the last character of the frame being received. -/
def Link.gapAt (l : Link) : Option Nat := l.rxAt.map (gapFrom l.rate)

/-- The receiver returns to HUNT. -/
def Link.toHunt (l : Link) : Link := { l with rx := .hunt, rxAt := none }

/-- R180: more than four byte times pass between two characters. -/
def State.gapFound (s : State) : State :=
  match s.link.rx with
  | .hunt => s
  | r => (s.setLink s.link.toHunt).lose .gap r.kindTag.1 r.kindTag.2

/-- R184, R178: the last character of the frame on CL_TXD has been sent. At the end of a reply the next request is dispatched before
the idle transmitter looks for work, so its reply goes before a report that waits (DESIGN CHOICE, notes/assumptions/70.md). -/
def State.frameOut (s : State) : State :=
  match s.link.tx with
  | none => s
  | some (.report _) => s.setLink { s.link with tx := none }
  | some (.reply _) =>
    let l := { s.link with tx := none, slot := none }
    let l := match l.newRate with
      | some rate => { l with rate, newRate := none }.toHunt
      | none => l
    (s.setLink l).dispatchNext

/-- A request of the host: a complete frame of its kind has just been received, so the receiver is in HUNT (DEDUCED, notes/assumptions/4.md). -/
def State.request (dt tag : Nat) (kind : Nat) (r : Request) (s : State) : State :=
  let s := s.after dt
  ((s.setLink s.link.toHunt).arrive kind tag r).close

end Sys2Proof.Machine
end

