-- ==== Sys2Proof/Machine/AnnounceCommands.lean ====
section
/-! DEFINITION. Machine/AnnounceCommands.lean: the meanings of the commands of the Cue Scheduler and the Announcement Link (chapters 8
and 9). -/

namespace Sys2Proof.Machine

/-- POLICY_SET (R145). -/
def execPolicySet (dt tag : Nat) (r : PolicyReq) (s : State) : Host.Outcome State Fault Refusal :=
  .next (s.request dt tag 0x18 (.policySet r))

/-- ZONE_MAP_SET (R146). -/
def execZoneMapSet (dt tag : Nat) (platforms : List Zones) (concourse : Zones) (s : State) : Host.Outcome State Fault Refusal :=
  .next (s.request dt tag 0x19 (.zoneMapSet platforms concourse))

/-- CUE_PUT (R154). -/
def execCuePut (dt tag : Nat) (r : CuePutReq) (s : State) : Host.Outcome State Fault Refusal :=
  .next (s.request dt tag 0x1A (.cuePut r))

/-- CUE_CANCEL (R155). -/
def execCueCancel (dt tag : Nat) (handle : Nat) (s : State) : Host.Outcome State Fault Refusal :=
  .next (s.request dt tag 0x1B (.cueCancel handle))

/-- The delay timer of the cue in a slot. -/
def World.delayAt (w : World) (slot : Nat) : Option Nat :=
  (w.cueAt slot).bind fun c => if c.state == .delaying then c.timer else none

/-- CUE_DELAY_EXPIRY (R141). -/
def execCueDelayExpiry (slot : Fin 32) (s : State) : Host.Outcome State Fault Refusal :=
  .next (s.expiry (s.world.delayAt slot.val) fun _ s => s.work (World.delayExpired slot.val))

/-- The period timer of the cue in a slot. -/
def World.periodAt (w : World) (slot : Nat) : Option Nat :=
  (w.cueAt slot).bind fun c => if c.state == .armed && c.mode.isPeriodic then c.timer else none

/-- CUE_PERIOD_EXPIRY (R141). -/
def execCuePeriodExpiry (slot : Fin 32) (s : State) : Host.Outcome State Fault Refusal :=
  .next (s.expiry (s.world.periodAt slot.val) fun _ s => s.work (World.periodExpired slot.val))

/-- R159: when the effective priority of the cue in a slot changes next. -/
def World.agingAt (w : World) (slot : Nat) : Option Nat := (w.cueAt slot).bind Cue.nextAging

/-- CUE_AGING (R159). -/
def execCueAging (slot : Fin 32) (s : State) : Host.Outcome State Fault Refusal :=
  .next (s.expiry (s.world.agingAt slot.val) fun _ s => s.work (World.agingDue slot.val))

/-- START_SENT (R162) (DESIGN CHOICE, notes/assumptions/12.md). -/
def execStartSent (dt : Nat) (channel : Fin 4) (s : State) : Host.Outcome State Fault Refusal :=
  .next ((s.after dt).work (World.startSent channel)).close

/-- PLAYING (R162, R164, R165). -/
def execPlaying (dt handle : Nat) (s : State) : Host.Outcome State Fault Refusal :=
  .next ((s.after dt).work (World.auWhole (World.auPlaying handle))).close

/-- REFUSED (R162, R165, R167). The reason is the unit's and is not kept. -/
def execRefused (dt handle _reason : Nat) (s : State) : Host.Outcome State Fault Refusal :=
  .next ((s.after dt).work (World.auWhole (World.auRefused handle))).close

/-- The timer of a play channel in a phase. -/
def World.playTimer (w : World) (i : Fin 4) (phase : Phase) : Option Nat :=
  if w.au.channels[i].phase == phase then w.au.channels[i].timer else none

/-- START_TIMEOUT (R162, R168). -/
def execStartTimeout (channel : Fin 4) (s : State) : Host.Outcome State Fault Refusal :=
  .next (s.expiry (s.world.playTimer channel .starting) fun _ s => s.work (World.startExpired channel))

/-- DONE (R163 to R166). -/
def execDone (dt handle : Nat) (s : State) : Host.Outcome State Fault Refusal :=
  .next ((s.after dt).work (World.auWhole (World.auDone handle))).close

/-- PLAY_LIMIT_EXPIRY (R163, R164, R167). -/
def execPlayLimitExpiry (channel : Fin 4) (s : State) : Host.Outcome State Fault Refusal :=
  .next (s.expiry (s.world.playTimer channel .playing) fun _ s => s.work (World.limitExpired channel))

/-- STOPPED (R164, R165). -/
def execStopped (dt handle : Nat) (s : State) : Host.Outcome State Fault Refusal :=
  .next ((s.after dt).work (World.auWhole (World.auStopped handle))).close

/-- STOP_WAIT_EXPIRY (R164). -/
def execStopWaitExpiry (channel : Fin 4) (s : State) : Host.Outcome State Fault Refusal :=
  .next (s.expiry (s.world.playTimer channel .stopping) fun _ s => s.work fun _ w => w.stopExpired channel)

/-- STATUS_REPLY (R168). -/
def execStatusReply (dt : Nat) (faults : Byte) (s : State) : Host.Outcome State Fault Refusal :=
  .next ((s.after dt).work (World.auWhole (World.auStatus faults))).close

/-- STATUS_TIMER_EXPIRY (R168). -/
def execStatusTimerExpiry (s : State) : Host.Outcome State Fault Refusal :=
  .next (s.expiry s.world.au.statusTimer fun t s => s.work fun _ w => w.statusDue t)

/-- AU_GAP (R161): the frame being received is lost where the silence lasts. -/
def execAuGap (dt : Nat) (s : State) : Host.Outcome State Fault Refusal :=
  .next (s.silence dt s.world.au.gapAt fun _ s => s.work fun _ w => w.auGapFound)

/-- AU_FRAME_DISCARDED (R161): characters on AU_RXD without a gap; each frame they complete is handled or discarded as it closes
(DEDUCED, notes/assumptions/4.md). -/
def execAuFrameDiscarded (arrival : Arrival) (s : State) : Host.Outcome State Fault Refusal :=
  .next (arrival.chars.foldl (fun s c => s.work (World.auCharacter c)) (s.after arrival.dt)).close

/-- AU_SET (R169). -/
def execAuSet (dt tag : Nat) (startTimeout playLimit stopWait : Nat) (s : State) : Host.Outcome State Fault Refusal :=
  .next (s.request dt tag 0x1C (.auSet startTimeout playLimit stopWait))

end Sys2Proof.Machine
end

