-- ==== Sys2Proof/Machine/ClockCommands.lean ====
section
/-! DEFINITION. Machine/ClockCommands.lean: the meanings of the commands of the Time Base and the power-on reset (chapter 1). -/

namespace Sys2Proof.Machine

/-- The power-on defaults of every block, the levels of the input pins and the commands that wait being the outside world's (DEDUCED, notes/assumptions/6.md). -/
def State.powerOn (s : State) : State :=
  let w := allStrings.foldl (fun w n => w.setChannel n (Channel.reset (s.world.channel n).busy)) World.reset
  let fresh := { State.reset with world := w, link := Link.reset s.link.hostReady, pending := s.pending }
  allLines.foldl (fun x i => x.setLine i (Monitor.reset s.lines[i].pin)) fresh

/-- POWER_ON_RESET (R2, R3 and the reset rule of each block). -/
def execPowerOnReset (s : State) : Host.Outcome State Fault Refusal :=
  .next s.powerOn

/-- NOMINAL_SECOND (R1): time runs to the start of the next nominal second, which takes its slew share and its increment. -/
def execNominalSecond (s : State) : Host.Outcome State Fault Refusal :=
  .next (s.begin (s.time.secondStart + Config.secondUs)).close

/-- Time runs on to the next whole second of T, unless one that has been passed still waits for its event. -/
def State.toBoundary (s : State) : State :=
  match s.time.due with
  | [] => s.setTime (TimeBase.toNextSecond 3 s.time)
  | _ :: _ => s

/-- SECOND_EVENT (R4, R5), with the minute event and the day roll of its boundary; only time passes while UNSET. -/
def execSecondEvent (s : State) : Host.Outcome State Fault Refusal :=
  .next (s.begin s.time.elapsed).toBoundary.takeBoundary.close

/-- R15, R20: HOLDOVER, with its report. -/
def State.watchOver (s : State) : State :=
  (s.setTime s.time.watchExpired).reports (refReports s.time s.time.watchExpired)

/-- WATCH_EXPIRY (R15). -/
def execWatchExpiry (s : State) : Host.Outcome State Fault Refusal :=
  .next (s.expiry s.time.watch fun _ s => s.watchOver)

/-- TIME_SET (R8 to R10). -/
def execTimeSet (dt tag : Nat) (h : Nat) (s : State) : Host.Outcome State Fault Refusal :=
  .next (s.request dt tag 0x01 (.timeSet h))

/-- TIME_STEP (R11). -/
def execTimeStep (dt tag : Nat) (minutes : Int) (s : State) : Host.Outcome State Fault Refusal :=
  .next (s.request dt tag 0x02 (.timeStep minutes))

/-- CLOCK_SET (R12). -/
def execClockSet (dt tag : Nat) (mode d : Nat) (s : State) : Host.Outcome State Fault Refusal :=
  .next (s.request dt tag 0x03 (.clockSet mode d))

end Sys2Proof.Machine
end

