-- ==== Sys2Proof/Machine/DialCommands.lean ====
section
/-! DEFINITION. Machine/DialCommands.lean: the meanings of the commands of the Dial Drivers (chapter 10). -/

namespace Sys2Proof.Machine

/-- DIAL_LINE_SET (R172). -/
def execDialLineSet (dt tag : Nat) (line : Nat) (enable : Bool) (width : Nat) (s : State) : Host.Outcome State Fault Refusal :=
  .next (s.request dt tag 0x1D (.dialLineSet line enable width))

/-- DIAL_SET (R173, R176). -/
def execDialSet (dt tag : Nat) (line dial polarity : Nat) (s : State) : Host.Outcome State Fault Refusal :=
  .next (s.request dt tag 0x1E (.dialSet line dial polarity))

/-- The drive timer of a line in a drive. -/
def DialLine.driveAt (drive : Drive) (x : DialLine) : Option Nat := if x.drive == drive then x.timer else none

/-- DIAL_PULSE_END (R175, R176). -/
def execDialPulseEnd (line : Fin 4) (s : State) : Host.Outcome State Fault Refusal :=
  .next (s.expiry (s.dials[line].driveAt .driving) fun _ s => s.dial line DialLine.pulseEnd)

/-- DIAL_REST_END (R175). -/
def execDialRestEnd (line : Fin 4) (s : State) : Host.Outcome State Fault Refusal :=
  .next (s.expiry (s.dials[line].driveAt .resting) fun _ s => s.dial line DialLine.restEnd)

end Sys2Proof.Machine
end

