-- ==== Sys2Proof/Machine/LineCommands.lean ====
section
/-! DEFINITION. Machine/LineCommands.lean: the meanings of the commands of the Line Monitor (chapter 2). -/

namespace Sys2Proof.Machine

/-- LINE_SET (R30, R31). -/
def execLineSet (dt tag : Nat) (r : LineSetReq) (s : State) : Host.Outcome State Fault Refusal :=
  .next (s.request dt tag 0x04 (.lineSet r))

/-- LINE_CLEAR (R33). -/
def execLineClear (dt tag : Nat) (lines : Nat) (s : State) : Host.Outcome State Fault Refusal :=
  .next (s.request dt tag 0x05 (.lineClear lines))

/-- The input is REF. -/
def isRef (i : LineNo) : Bool := i == refLine

/-- The number of an input: 1..12 for EL1..EL12, 13 for REF (R187). -/
def lineNumber (i : LineNo) : Nat := i.val + 1

/-- A rising edge at the present moment. -/
def State.rise (i : LineNo) (s : State) : State :=
  s.hear i (s.lines[i].rising (lineNumber i) (isRef i) s.time.station s.time.elapsed)

/-- LINE_RISING_EDGE (R21 to R23, R25, R26, R29). -/
def execLineRisingEdge (dt : Nat) (line : LineNo) (s : State) : Host.Outcome State Fault Refusal :=
  .next ((s.after dt).rise line).close

/-- A falling edge at the present moment. -/
def State.fall (i : LineNo) (s : State) : State := s.setLine i (s.lines[i].falling s.time.elapsed)

/-- LINE_FALLING_EDGE (R21, R22). -/
def execLineFallingEdge (dt : Nat) (line : LineNo) (s : State) : Host.Outcome State Fault Refusal :=
  .next ((s.after dt).fall line).close

/-- LINE_REARMED (R21). -/
def execLineRearmed (line : LineNo) (s : State) : Host.Outcome State Fault Refusal :=
  .next (s.expiry s.lines[line].rearmAt fun _ s => s.setLine line s.lines[line].rearmed)

/-- The open gap is confirmed at the present moment. -/
def State.confirmGap (i : LineNo) (s : State) : State :=
  s.hear i (s.lines[i].confirmed (lineNumber i) (isRef i) (s.refWindows.inForce s.time.mode) s.time.elapsed)

/-- GAP_CONFIRMED (R22, R24, R26, R29), with what an accepted reference pulse does (R13 to R19). -/
def execGapConfirmed (line : LineNo) (s : State) : Host.Outcome State Fault Refusal :=
  .next (s.expiry s.lines[line].confirmAt fun _ s => s.confirmGap line)

/-- QUALIFICATION_TIME (R23), with the delivery of the edge (R28). -/
def execQualificationTime (line : LineNo) (s : State) : Host.Outcome State Fault Refusal :=
  .next (s.expiry (s.lines[line].qualifyTimer (isRef line)) fun _ s =>
    s.hear line (s.lines[line].qualify (lineNumber line) s.time.elapsed))

/-- MAX_HIGH_PASSED (R25, R29). -/
def execMaxHighPassed (line : LineNo) (s : State) : Host.Outcome State Fault Refusal :=
  .next (s.expiry (s.lines[line].stuckTimer (isRef line)) fun _ s =>
    s.hear line (s.lines[line].suspend (lineNumber line) s.time.elapsed))

end Sys2Proof.Machine
end

