-- ==== Sys2Proof/Machine/LinkCommands.lean ====
section
/-! DEFINITION. Machine/LinkCommands.lean: the meanings of the commands of the Control Link (chapter 11). -/

namespace Sys2Proof.Machine

/-- REQUEST_FRAME (R179 to R182): characters without a gap; each frame they complete is placed or lost as it closes. -/
def execRequestFrame (dt : Nat) (chars : List RxChar) (s : State) : Host.Outcome State Fault Refusal :=
  .next (chars.foldl (fun s c => s.character c) (s.after dt)).close

/-- CL_GAP (R180). -/
def execClGap (dt : Nat) (s : State) : Host.Outcome State Fault Refusal :=
  .next (s.silence dt s.link.gapAt fun _ s => s.gapFound)

/-- REPLY_SENT (R184, R182, R178): the end of the reply or report on CL_TXD. -/
def execReplySent (dt : Nat) (s : State) : Host.Outcome State Fault Refusal :=
  .next (s.after dt).frameOut.close

/-- UNKNOWN_KIND (R182): a frame with an empty body of a kind, judged as any frame is at its dispatch. -/
def execUnknownKind (dt tag kind : Nat) (s : State) : Host.Outcome State Fault Refusal :=
  .next (s.request dt tag kind (parseRequest kind []))

/-- The level of the HOST_READY pin. -/
def State.setHostReady (asserted : Bool) (s : State) : State := s.setLink { s.link with hostReady := asserted }

/-- HOST_READY (R184). -/
def execHostReady (dt : Nat) (asserted : Bool) (s : State) : Host.Outcome State Fault Refusal :=
  .next ((s.after dt).setHostReady asserted).close

/-- QUERY (R185). -/
def execQuery (dt tag : Nat) (subject parameter first count : Nat) (s : State) : Host.Outcome State Fault Refusal :=
  .next (s.request dt tag 0x1F (.query subject parameter first count))

/-- LINK_SET (R178). -/
def execLinkSet (dt tag : Nat) (rate : Nat) (s : State) : Host.Outcome State Fault Refusal :=
  .next (s.request dt tag 0x21 (.linkSet rate))

/-- RESTART (R186). -/
def execRestart (dt tag : Nat) (s : State) : Host.Outcome State Fault Refusal :=
  .next (s.request dt tag 0x20 (.restart))

end Sys2Proof.Machine
end

