-- ==== Sys2Proof/Machine/StringCommands.lean ====
section
/-! DEFINITION. Machine/StringCommands.lean: the meanings of the commands of the String Links (chapter 7). -/

namespace Sys2Proof.Machine

/-- STRING_SET (R120, R121, R114, R81). -/
def execStringSet (dt tag : Nat) (r : StringSetReq) (s : State) : Host.Outcome State Fault Refusal :=
  .next (s.request dt tag 0x16 (.stringSet r))

/-- LINK_TEST (R136). -/
def execLinkTest (dt tag : Nat) (string : Nat) (s : State) : Host.Outcome State Fault Refusal :=
  .next (s.request dt tag 0x17 (.linkTest string))

/-- Change one string channel at the present moment. -/
def State.channel (n : StringNo) (f : Nat → Channel → Channel) (s : State) : State :=
  s.work fun e w => w.setChannel n (f e.now (w.channel n))

/-- LINK_TEST_RESULT (R136): characters come back, or none do and the test's wait ends in that silence. -/
def execLinkTestResult (dt : Nat) (string : StringNo) (chars : List RxChar) (s : State) : Host.Outcome State Fault Refusal :=
  .next (match chars with
    | [] => s.silence dt (s.world.channel string).testEndsAt fun _ s => s.work (World.testWaitOver string)
    | _ => ((s.after dt).work (World.testCharacters string chars)).close)

/-- POLL_TICK (R125). -/
def execPollTick (string : StringNo) (s : State) : Host.Outcome State Fault Refusal :=
  .next (s.expiry (s.world.channel string).pollTimer fun t s => s.channel string fun _ c => c.pollTick t)

/-- R126: the moment at which the head frame may begin, in a channel in which it may. -/
def Channel.beginAt (c : Channel) : Option Nat := orNone c.mayBegin c.quietAt

/-- FRAME_BEGIN (R126, R133). -/
def execFrameBegin (string : StringNo) (s : State) : Host.Outcome State Fault Refusal :=
  .next (s.expiry (s.world.channel string).beginAt fun _ s => s.channel string Channel.beginFrame)

/-- R126: the end of the last character of the frame being sent. -/
def Channel.sentAt (c : Channel) : Option Nat := c.exchange.bind (·.sendEnds)

/-- FRAME_SENT (R126). -/
def execFrameSent (string : StringNo) (s : State) : Host.Outcome State Fault Refusal :=
  .next (s.expiry (s.world.channel string).sentAt fun _ s => s.channel string Channel.frameSent)

/-- R127: the expiry of the reply timer. -/
def Channel.replyAt (c : Channel) : Option Nat := c.exchange.bind (·.replyTimer)

/-- REPLY_TIMEOUT (R128). -/
def execReplyTimeout (string : StringNo) (s : State) : Host.Outcome State Fault Refusal :=
  .next (s.expiry (s.world.channel string).replyAt fun _ s => s.work (World.replyTimeout string))

/-- REPLY_GAP (R127, R128). -/
def execReplyGap (dt : Nat) (string : StringNo) (s : State) : Host.Outcome State Fault Refusal :=
  .next (s.silence dt (s.world.channel string).gapAt fun _ s => s.work (World.voidAttempt string))

/-- VOID_REPLY (R127, R128): characters on the data line without a gap; each is judged as it comes, and a good reply that they
complete does what its own command does. -/
def execVoidReply (arrival : Arrival) (string : StringNo) (s : State) : Host.Outcome State Fault Refusal :=
  .next (arrival.chars.foldl (fun s c => s.work (World.dataCharacter string c)) (s.after arrival.dt)).close

/-- ACK_STAGE (R127, R129, R130). -/
def execAckStage (dt : Nat) (string : StringNo) (moduleNo moduleRow stringRow : Nat) (reject : Bool) (s : State) : Host.Outcome State Fault Refusal :=
  .next ((s.after dt).work (World.ackStage string moduleNo moduleRow stringRow reject)).close

/-- STATUS (R127, R129, R132). -/
def execStatus (dt : Nat) (string : StringNo) (moduleNo : Nat) (flags : ModuleFlags) (s : State) : Host.Outcome State Fault Refusal :=
  .next ((s.after dt).work (World.status string moduleNo flags)).close

/-- PAUSE_CODE (R133). -/
def execPauseCode (dt : Nat) (string : StringNo) (s : State) : Host.Outcome State Fault Refusal :=
  .next ((s.after dt).work (World.pauseCode string)).close

/-- RESUME_CODE (R133). -/
def execResumeCode (dt : Nat) (string : StringNo) (s : State) : Host.Outcome State Fault Refusal :=
  .next ((s.after dt).work (World.resumeCode string)).close

/-- BUSY_RETURN (R133). -/
def execBusyReturn (dt : Nat) (string : StringNo) (asserted : Bool) (s : State) : Host.Outcome State Fault Refusal :=
  .next ((s.after dt).channel string (Channel.busyReturn asserted)).close

/-- STALLED (R134). -/
def execStalled (string : StringNo) (s : State) : Host.Outcome State Fault Refusal :=
  .next (s.expiry (s.world.channel string).holdTimer fun _ s => s.work (World.stall string))

/-- RECOVERED (R135). -/
def execRecovered (string : StringNo) (s : State) : Host.Outcome State Fault Refusal :=
  .next (s.expiry (s.world.channel string).faultTimer fun _ s => s.work (World.recover string))

end Sys2Proof.Machine
end

