-- ==== Sys2Proof/Machine/TableCommands.lean ====
section
/-! DEFINITION. Machine/TableCommands.lean: the meanings of the commands of the Service Table, the Text Pool, the Lifecycle Sequencer and the
Notice List (chapters 3 and 4). -/

namespace Sys2Proof.Machine

/-- SERVICE_PUT (R40 to R42). -/
def execServicePut (dt tag : Nat) (r : ServicePutReq) (s : State) : Host.Outcome State Fault Refusal :=
  .next (s.request dt tag 0x06 (.servicePut r))

/-- SERVICE_AMEND (R43 to R48). -/
def execServiceAmend (dt tag : Nat) (r : AmendReq) (s : State) : Host.Outcome State Fault Refusal :=
  .next (s.request dt tag 0x07 (.serviceAmend r))

/-- SERVICE_DROP (R49, R50). -/
def execServiceDrop (dt tag : Nat) (code : Nat) (s : State) : Host.Outcome State Fault Refusal :=
  .next (s.request dt tag 0x08 (.serviceDrop code))

/-- TEXT_PUT (R54, R55). -/
def execTextPut (dt tag : Nat) (index : Nat) (chars : Chars) (s : State) : Host.Outcome State Fault Refusal :=
  .next (s.request dt tag 0x09 (.textPut index chars))

/-- TEXT_DROP (R56). -/
def execTextDrop (dt tag : Nat) (index : Nat) (s : State) : Host.Outcome State Fault Refusal :=
  .next (s.request dt tag 0x0A (.textDrop index))

/-- LIFECYCLE_SET (R59). -/
def execLifecycleSet (dt tag : Nat) (r : LifecycleReq) (s : State) : Host.Outcome State Fault Refusal :=
  .next (s.request dt tag 0x0B (.lifecycleSet r))

/-- NOTICE_PUT (R71 to R74). -/
def execNoticePut (dt tag : Nat) (r : NoticePutReq) (s : State) : Host.Outcome State Fault Refusal :=
  .next (s.request dt tag 0x0C (.noticePut r))

/-- NOTICE_DROP (R75). -/
def execNoticeDrop (dt tag : Nat) (id : Nat) (s : State) : Host.Outcome State Fault Refusal :=
  .next (s.request dt tag 0x0D (.noticeDrop id))

end Sys2Proof.Machine
end

