-- ==== Sys2Proof/Machine/WallCommands.lean ====
section
/-! DEFINITION. Machine/WallCommands.lean: the meanings of the commands of the Composer and the Commit Controller (chapters 5 and 6). -/

namespace Sys2Proof.Machine

/-- VIEW_SET (R79, R80). -/
def execViewSet (dt tag : Nat) (string : Nat) (w0 w1 w2 w3 : WindowReq) (s : State) : Host.Outcome State Fault Refusal :=
  .next (s.request dt tag 0x11 (.viewSet string w0 w1 w2 w3))

/-- COMPOSE_SET (R93). -/
def execComposeSet (dt tag : Nat) (minutes : Nat) (s : State) : Host.Outcome State Fault Refusal :=
  .next (s.request dt tag 0x12 (.composeSet minutes))

/-- PAGE_EXPIRY (R88). -/
def execPageExpiry (string : StringNo) (slot : Fin 4) (s : State) : Host.Outcome State Fault Refusal :=
  .next (s.expiry (s.world.view string).windows[slot].pageTimer fun t s => s.work (World.pageExpired string slot t))

/-- SETTLE_EXPIRY (R102). -/
def execSettleExpiry (s : State) : Host.Outcome State Fault Refusal :=
  .next (s.expiry s.world.commit.settleTimer fun _ s => s.work World.settleExpired)

/-- STAGING_DEADLINE_EXPIRY (R109). -/
def execStagingDeadlineExpiry (s : State) : Host.Outcome State Fault Refusal :=
  .next (s.expiry s.world.commit.deadlineTimer fun _ s => s.work World.deadline)

/-- STAGGER_EXPIRY (R110). -/
def execStaggerExpiry (s : State) : Host.Outcome State Fault Refusal :=
  .next (s.expiry s.world.commit.staggerTimer fun _ s => s.work World.enterLatchB)

/-- PULSE_END (R100, R111). -/
def execPulseEnd (string : StringNo) (s : State) : Host.Outcome State Fault Refusal :=
  .next (s.expiry (s.world.latch string).ends fun _ s => s.work (World.pulseEnded string))

/-- BATCH_OPEN (R103). -/
def execBatchOpen (dt tag : Nat) (s : State) : Host.Outcome State Fault Refusal :=
  .next (s.request dt tag 0x13 (.batchOpen))

/-- BATCH_CLOSE (R104). -/
def execBatchClose (dt tag : Nat) (s : State) : Host.Outcome State Fault Refusal :=
  .next (s.request dt tag 0x14 (.batchClose))

/-- BATCH_EXPIRED (R104). -/
def execBatchExpired (s : State) : Host.Outcome State Fault Refusal :=
  .next (s.expiry s.world.commit.batchTimer fun _ s => s.work World.expireBatch)

/-- COMMIT_SET (R117). -/
def execCommitSet (dt tag : Nat) (r : CommitSetReq) (s : State) : Host.Outcome State Fault Refusal :=
  .next (s.request dt tag 0x15 (.commitSet r))

/-- SWEEP_EXPIRY (R115). -/
def execSweepExpiry (s : State) : Host.Outcome State Fault Refusal :=
  .next (s.expiry s.world.commit.sweepTimer fun t s => s.work (World.sweep t))

end Sys2Proof.Machine
end

