-- ==== Sys2Proof/Machine/Dispatch.lean ====
section
/-! DEFINITION. Machine/Dispatch.lean: each command's meaning, one arm for each row of spec/opcode_table.json in its order. -/

namespace Sys2Proof.Machine

/-- What a command does to everything but the queue of waiting commands. -/
def exec (i : Instr) (s : State) : Host.Outcome State Fault Refusal :=
  match i with
  | .powerOnReset => Sys2Proof.Machine.execPowerOnReset s
  | .nominalSecond => Sys2Proof.Machine.execNominalSecond s
  | .secondEvent => Sys2Proof.Machine.execSecondEvent s
  | .watchExpiry => Sys2Proof.Machine.execWatchExpiry s
  | .timeSet dt tag h => Sys2Proof.Machine.execTimeSet dt tag h s
  | .timeStep dt tag minutes => Sys2Proof.Machine.execTimeStep dt tag minutes s
  | .clockSet dt tag mode d => Sys2Proof.Machine.execClockSet dt tag mode d s
  | .lineSet dt tag r => Sys2Proof.Machine.execLineSet dt tag r s
  | .lineClear dt tag lines => Sys2Proof.Machine.execLineClear dt tag lines s
  | .lineRisingEdge dt line => Sys2Proof.Machine.execLineRisingEdge dt line s
  | .lineFallingEdge dt line => Sys2Proof.Machine.execLineFallingEdge dt line s
  | .lineRearmed line => Sys2Proof.Machine.execLineRearmed line s
  | .gapConfirmed line => Sys2Proof.Machine.execGapConfirmed line s
  | .qualificationTime line => Sys2Proof.Machine.execQualificationTime line s
  | .maxHighPassed line => Sys2Proof.Machine.execMaxHighPassed line s
  | .servicePut dt tag r => Sys2Proof.Machine.execServicePut dt tag r s
  | .serviceAmend dt tag r => Sys2Proof.Machine.execServiceAmend dt tag r s
  | .serviceDrop dt tag code => Sys2Proof.Machine.execServiceDrop dt tag code s
  | .textPut dt tag index chars => Sys2Proof.Machine.execTextPut dt tag index chars s
  | .textDrop dt tag index => Sys2Proof.Machine.execTextDrop dt tag index s
  | .lifecycleSet dt tag r => Sys2Proof.Machine.execLifecycleSet dt tag r s
  | .noticePut dt tag r => Sys2Proof.Machine.execNoticePut dt tag r s
  | .noticeDrop dt tag id => Sys2Proof.Machine.execNoticeDrop dt tag id s
  | .viewSet dt tag string w0 w1 w2 w3 => Sys2Proof.Machine.execViewSet dt tag string w0 w1 w2 w3 s
  | .composeSet dt tag minutes => Sys2Proof.Machine.execComposeSet dt tag minutes s
  | .pageExpiry string slot => Sys2Proof.Machine.execPageExpiry string slot s
  | .settleExpiry => Sys2Proof.Machine.execSettleExpiry s
  | .stagingDeadlineExpiry => Sys2Proof.Machine.execStagingDeadlineExpiry s
  | .staggerExpiry => Sys2Proof.Machine.execStaggerExpiry s
  | .pulseEnd string => Sys2Proof.Machine.execPulseEnd string s
  | .batchOpen dt tag => Sys2Proof.Machine.execBatchOpen dt tag s
  | .batchClose dt tag => Sys2Proof.Machine.execBatchClose dt tag s
  | .batchExpired => Sys2Proof.Machine.execBatchExpired s
  | .commitSet dt tag r => Sys2Proof.Machine.execCommitSet dt tag r s
  | .sweepExpiry => Sys2Proof.Machine.execSweepExpiry s
  | .stringSet dt tag r => Sys2Proof.Machine.execStringSet dt tag r s
  | .linkTest dt tag string => Sys2Proof.Machine.execLinkTest dt tag string s
  | .linkTestResult dt string chars => Sys2Proof.Machine.execLinkTestResult dt string chars s
  | .pollTick string => Sys2Proof.Machine.execPollTick string s
  | .frameBegin string => Sys2Proof.Machine.execFrameBegin string s
  | .frameSent string => Sys2Proof.Machine.execFrameSent string s
  | .replyTimeout string => Sys2Proof.Machine.execReplyTimeout string s
  | .replyGap dt string => Sys2Proof.Machine.execReplyGap dt string s
  | .voidReply arrival string => Sys2Proof.Machine.execVoidReply arrival string s
  | .ackStage dt string moduleNo moduleRow stringRow reject => Sys2Proof.Machine.execAckStage dt string moduleNo moduleRow stringRow reject s
  | .status dt string moduleNo flags => Sys2Proof.Machine.execStatus dt string moduleNo flags s
  | .pauseCode dt string => Sys2Proof.Machine.execPauseCode dt string s
  | .resumeCode dt string => Sys2Proof.Machine.execResumeCode dt string s
  | .busyReturn dt string asserted => Sys2Proof.Machine.execBusyReturn dt string asserted s
  | .stalled string => Sys2Proof.Machine.execStalled string s
  | .recovered string => Sys2Proof.Machine.execRecovered string s
  | .policySet dt tag r => Sys2Proof.Machine.execPolicySet dt tag r s
  | .zoneMapSet dt tag platforms concourse => Sys2Proof.Machine.execZoneMapSet dt tag platforms concourse s
  | .cuePut dt tag r => Sys2Proof.Machine.execCuePut dt tag r s
  | .cueCancel dt tag handle => Sys2Proof.Machine.execCueCancel dt tag handle s
  | .cueDelayExpiry slot => Sys2Proof.Machine.execCueDelayExpiry slot s
  | .cuePeriodExpiry slot => Sys2Proof.Machine.execCuePeriodExpiry slot s
  | .cueAging slot => Sys2Proof.Machine.execCueAging slot s
  | .startSent dt channel => Sys2Proof.Machine.execStartSent dt channel s
  | .playing dt handle => Sys2Proof.Machine.execPlaying dt handle s
  | .refused dt handle reason => Sys2Proof.Machine.execRefused dt handle reason s
  | .startTimeout channel => Sys2Proof.Machine.execStartTimeout channel s
  | .done dt handle => Sys2Proof.Machine.execDone dt handle s
  | .playLimitExpiry channel => Sys2Proof.Machine.execPlayLimitExpiry channel s
  | .stopped dt handle => Sys2Proof.Machine.execStopped dt handle s
  | .stopWaitExpiry channel => Sys2Proof.Machine.execStopWaitExpiry channel s
  | .statusReply dt faults => Sys2Proof.Machine.execStatusReply dt faults s
  | .statusTimerExpiry => Sys2Proof.Machine.execStatusTimerExpiry s
  | .auGap dt => Sys2Proof.Machine.execAuGap dt s
  | .auFrameDiscarded arrival => Sys2Proof.Machine.execAuFrameDiscarded arrival s
  | .auSet dt tag startTimeout playLimit stopWait => Sys2Proof.Machine.execAuSet dt tag startTimeout playLimit stopWait s
  | .dialLineSet dt tag line enable width => Sys2Proof.Machine.execDialLineSet dt tag line enable width s
  | .dialSet dt tag line dial polarity => Sys2Proof.Machine.execDialSet dt tag line dial polarity s
  | .dialPulseEnd line => Sys2Proof.Machine.execDialPulseEnd line s
  | .dialRestEnd line => Sys2Proof.Machine.execDialRestEnd line s
  | .requestFrame dt chars => Sys2Proof.Machine.execRequestFrame dt chars s
  | .clGap dt => Sys2Proof.Machine.execClGap dt s
  | .replySent dt => Sys2Proof.Machine.execReplySent dt s
  | .unknownKind dt tag kind => Sys2Proof.Machine.execUnknownKind dt tag kind s
  | .hostReady dt asserted => Sys2Proof.Machine.execHostReady dt asserted s
  | .query dt tag subject parameter first count => Sys2Proof.Machine.execQuery dt tag subject parameter first count s
  | .linkSet dt tag rate => Sys2Proof.Machine.execLinkSet dt tag rate s
  | .restart dt tag => Sys2Proof.Machine.execRestart dt tag s

end Sys2Proof.Machine
end

