-- ==== Sys2Proof/Machine/Step.lean ====
section
/-! DEFINITION. Machine/Step.lean: one step of the engine: the command at the front of the queue is taken. -/

namespace Sys2Proof.Machine

/-- The engine with its queue of waiting commands replaced. -/
def State.withPending (l : List Instr) (s : State) : State := { s with pending := l }

/-- Take the command at the front of the queue; with no command waiting nothing happens
(DESIGN CHOICE, notes/assumptions/3.md). -/
def step (s : State) : Host.Outcome State Fault Refusal :=
  match s.pending with
  | [] => .next s
  | c :: rest => exec c (s.withPending rest)

/-- The command that a word spells is put at the front of the queue; the state stays as it is where the word spells none. -/
def State.withFetchWord (s : State) (nbits w : Nat) : State :=
  match Sys2Proof.decodeTableWord nbits w with
  | some c => s.withPending (c :: s.pending)
  | none => s

end Sys2Proof.Machine
end

