-- ==== Sys2Proof/Safety.lean ====
section
/-! DEFINITION. Safety.lean: what counts as a sound state and the terms in which claims say what a command leaves as it was. The
invariants of each block are what its rules say of it at all times; the frames compare the state before with the
state after. -/

namespace Sys2Proof.Machine

/-! ## Sound blocks -/

/-- The Time Base: T in the clock day (R1), F and S in their ranges and the increment within R1's bounds, D in its range
(R12), the mode NONE exactly where the reference is FREE (R12), a watch only in LOCKED (R15), a pending step only
there (R12, R15), no step mark in the future (R7), and no second event due while UNSET (R3). -/
structure TimeBase.Sound (t : TimeBase) : Prop where
  base : t.base < 86400000000
  trim : -200 ≤ t.trim ∧ t.trim ≤ 200
  slew : -1000000 ≤ t.slew ∧ t.slew ≤ 1000000
  increment : 997800 ≤ t.increment ∧ t.increment ≤ 1002200
  dayStart : t.dayStart ≤ 1439
  free : t.mode = .none ↔ t.refState = .free
  watch : t.watch.isSome = true → t.refState = .locked
  pendingStep : t.pendingStep.isSome = true → t.refState = .locked
  stepMark : ∀ m, t.stepMark = some m → m ≤ t.elapsed
  unset : t.validity = .unsetTime → t.due = []

/-- A monitor: its settings in the ranges of R30, its counts in 16 bits (R27, R32), a rise mark exactly in PENDING, ACTIVE
and SUSPENDED, and a gap mark only there (R22). -/
structure Monitor.Sound (m : Monitor) : Prop where
  minHigh : 10 ≤ m.minHigh ∧ m.minHigh ≤ 5000
  maxHigh : m.maxHigh = 0 ∨ (100 ≤ m.maxHigh ∧ m.maxHigh ≤ 60000)
  minLow : 10 ≤ m.minLow ∧ m.minLow ≤ 5000
  durations : m.lastHigh ≤ 65535 ∧ m.lastLow ≤ 65535
  glitches : m.glitches ≤ 65535
  rise : m.rise.isSome = true ↔ (m.state = .pending ∨ m.state = .active ∨ m.state = .suspended)
  gap : m.gap.isSome = true → m.rise.isSome = true

/-- The Line Monitor: every monitor sound, `min_high` below a `max_high` that is not 0 on an event line (R30), the windows of
REF in order and below its `max_high` (R31), and no role on REF (R31). -/
structure State.LinesSound (s : State) : Prop where
  monitors : ∀ i : LineNo, s.lines[i].Sound
  events : ∀ i : LineNo, i ≠ refLine → s.lines[i].maxHigh = 0 ∨ s.lines[i].minHigh < s.lines[i].maxHigh
  windows : s.refWindows.secLo < s.refWindows.secHi ∧ s.refWindows.minLo < s.refWindows.minHi
  refMax : s.lines[refLine].maxHigh = 0 ∨
    (s.refWindows.secHi < s.lines[refLine].maxHigh ∧ s.refWindows.minHi < s.lines[refLine].maxHigh)
  refActive : s.lines[refLine].state ≠ .active

/-- The Service Table (R35): at most 128 records, no two with the same code, in strictly ascending order of the triple
(`eff_sm`, `sched_sm`, `code`), each with `eff_sm` equal to `sched_sm` plus the delay, INDEFINITE counted as 0. -/
structure World.TableSound (w : World) : Prop where
  room : w.services.length ≤ 128
  codes : (w.services.map (·.code)).Nodup
  order : w.services.Pairwise fun a b => a.before b = true
  effective : ∀ r ∈ w.services, r.effSm = r.schedSm + r.delay.count

/-- The Notice List (R71): at most 32 notices, in strictly ascending order of id. -/
structure World.NoticesSound (w : World) : Prop where
  room : w.notices.length ≤ 32
  order : w.notices.Pairwise fun a b => a.id < b.id

/-- The cells of all stored texts. -/
def World.cellsUsed (w : World) : Nat := (w.texts.map (·.cells)).sum

/-- The Text Pool (R53): indices strictly ascending, each text of ceil(L / 8) cells, and the free cells plus the cells of all
stored texts always 1,536. -/
structure World.PoolSound (w : World) : Prop where
  order : w.texts.Pairwise fun a b => a.index < b.index
  cells : ∀ t ∈ w.texts, t.cells = (t.chars.length + 7) / 8
  total : w.freeCells + w.cellsUsed = 1536

/-- How often a text is named by the records and notices (R57). -/
def World.references (w : World) (index : Nat) : Nat :=
  (w.services.map fun r => (r.refs.filter (· == index)).length).sum + (w.notices.filter (·.text == index)).length

/-- Use counts (R57): each stored text counts the references to it, and every text that is named is stored. -/
structure World.UsesSound (w : World) : Prop where
  counts : ∀ t ∈ w.texts, t.uses = w.references t.index
  services : ∀ r ∈ w.services, ∀ i ∈ r.refs, ∃ t ∈ w.texts, t.index = i
  notices : ∀ n ∈ w.notices, ∃ t ∈ w.texts, t.index = n.text

/-- The tables and their texts together. -/
structure World.TablesSound (w : World) : Prop where
  table : w.TableSound
  notices : w.NoticesSound
  pool : w.PoolSound
  uses : w.UsesSound

/-- The cue table (R138): at most 32 cues, in ascending order of their slots 0..31, one to a slot, and no two of the same kind
and subject. -/
structure World.CuesSound (w : World) : Prop where
  room : w.cues.length ≤ 32
  slots : w.cues.Pairwise fun a b => a.slot < b.slot
  below : ∀ c ∈ w.cues, c.slot < 32
  subjects : w.cues.Pairwise fun a b => ¬ (a.kind = b.kind ∧ a.subject = b.subject)

/-- How far a sequence number lies behind table_seq. -/
def World.behind (w : World) (x : Seq) : Nat := (w.tableSeq - x).toNat

/-- The release check has been or can be made of the cue: it is QUEUED, STARTING or PLAYING. -/
def Cue.released (c : Cue) : Prop := c.state = .queued ∨ c.state = .starting ∨ c.state = .playing

/-- Show before say (R142, R143). Counted back from table_seq, wall_seq lies no nearer than the snapshot commit_seq (R105, R111), and the
`seq` of a cue that is QUEUED, STARTING or PLAYING no nearer than wall_seq: the wall has shown its mark. No two cues have one
handle (R139), and no two plays in STARTING or PLAYING; a cue whose play is STARTING is STARTING, and one whose play is PLAYING is
PLAYING (R157, R162). -/
structure World.ShownSound (w : World) : Prop where
  snapshot : w.behind w.commit.commitSeq ≤ w.behind w.commit.wallSeq
  shown : ∀ c ∈ w.cues, c.released → w.behind w.commit.wallSeq ≤ w.behind c.seq
  handles : w.cues.Pairwise fun a b => a.handle ≠ b.handle
  plays : ∀ i j : Fin 4, i ≠ j → ∀ p q, w.au.channels[i].play = some p → w.au.channels[j].play = some q →
    (w.au.channels[i].phase = .starting ∨ w.au.channels[i].phase = .playing) →
    (w.au.channels[j].phase = .starting ∨ w.au.channels[j].phase = .playing) → p.handle ≠ q.handle
  starting : ∀ i : Fin 4, ∀ p, w.au.channels[i].play = some p → w.au.channels[i].phase = .starting →
    ∀ c ∈ w.cues, c.handle = p.handle → c.state = .starting
  playing : ∀ i : Fin 4, ∀ p, w.au.channels[i].play = some p → w.au.channels[i].phase = .playing →
    ∀ c ∈ w.cues, c.handle = p.handle → c.state = .playing

/-- The settings of a string in their ranges (R120). -/
structure StringSettings.Sound (x : StringSettings) : Prop where
  modules : 1 ≤ x.modules ∧ x.modules ≤ 8
  rows : 1 ≤ x.rows ∧ x.rows ≤ 6
  divisor : 4 ≤ x.divI ∧ x.divI ≤ 2047 ∧ x.divF ≤ 7
  limits : 5 ≤ x.timeout ∧ x.timeout ≤ 200 ∧ x.retries ≤ 3
  codes : x.flow = .pauseCodes → x.pause ≠ x.resume

/-- One string on the wall: as many target and shown rows as its row total (R77, R99); while DARK every shown row EMPTY, and
restage-all set unless its rows are staged (R99, R105); a disabled string DARK and out of the commit (R105, R114); a
failed one with its cause and restage-all (R106 to R109); and a latch line with an end exactly while a pulse is on it
(R100). -/
structure World.StringSound (w : World) (n : StringNo) : Prop where
  settings : (w.channel n).settings.Sound
  targets : (w.view n).targets.length = w.rowTotal n
  shown : (w.wall n).shown.length = w.rowTotal n
  dark : (w.wall n).lit = .dark → (w.wall n).shown = List.replicate (w.rowTotal n) .empty
  restage : (w.wall n).lit = .dark → (w.wall n).part ≠ .staging → (w.wall n).part ≠ .staged → (w.wall n).restage = true
  disabled : (w.channel n).settings.enabled = false →
    (w.wall n).lit = .dark ∧ ((w.wall n).part = .none ∨ (w.wall n).part = .withdrawn)
  failed : (w.wall n).part = .failed → (w.wall n).cause.isSome = true ∧ (w.wall n).restage = true
  latch : (w.latch n).ends.isSome = true ↔ (w.latch n).pulses ≠ []

/-- The wall: every string sound; outside a commit no string has a part, a staged set or a cause (R111); none is still STAGING
once the wall is latched (R108); and the settle, deadline and stagger timers stand only in SETTLING, STAGING and LATCH_A
(R102, R105, R110). -/
structure World.WallSound (w : World) : Prop where
  strings : ∀ n, w.StringSound n
  idle : w.commit.state = .quiet ∨ w.commit.state = .settling →
    ∀ n, (w.wall n).part = .none ∧ (w.wall n).staged = [] ∧ (w.wall n).cause = none
  latched : w.commit.state = .latchA ∨ w.commit.state = .latchB → ∀ n, (w.wall n).part ≠ .staging
  settleTimer : w.commit.settleTimer.isSome = true → w.commit.state = .settling
  deadlineTimer : w.commit.deadlineTimer.isSome = true → w.commit.state = .staging
  staggerTimer : w.commit.staggerTimer.isSome = true → w.commit.state = .latchA

/-- Page indices lie in 0..127 (R78). -/
def World.PagesSound (w : World) : Prop := ∀ n, ∀ k : Fin 4, (w.view n).windows[k].pageIndex ≤ 127

/-- The play channels (R157): a channel is FREE exactly when it holds no play, and no zone is occupied by two plays. -/
structure World.PlaysSound (w : World) : Prop where
  free : ∀ i : Fin 4, w.au.channels[i].phase = .free ↔ w.au.channels[i].play = none
  zones : ∀ i j : Fin 4, i ≠ j → ∀ p q, w.au.channels[i].play = some p → w.au.channels[j].play = some q →
    p.zones &&& q.zones = 0#8

/-- A slave clock line (R171, R172): dial and distance in 0..719, the width a multiple of 50 in 100..2,000 ms, a drive timer
exactly while the drive is not QUIET, and a pending set, in range, only while a pulse is on the line (R173, R176). -/
structure DialLine.Sound (x : DialLine) : Prop where
  dial : x.dial < 720
  distance : x.distance < 720
  width : 100 ≤ x.width ∧ x.width ≤ 2000 ∧ x.width % 50 = 0
  timer : x.timer.isSome = true ↔ x.drive ≠ .quiet
  pending : ∀ p, x.pending = some p → x.drive = .driving ∧ p.1 < 720

/-- The Control Link: a rate of R178; a request queue of at most 8 whose PART_READY keeps R181; a report queue of at most 32
(R184); counts that stop at 65,535 (R180); no request left waiting while the reply slot is empty (R182); a reply
being sent only from the slot (R184); and a gap reckoned exactly while a frame is being received (R180). -/
structure Link.Sound (l : Link) : Prop where
  rate : l.rate ∈ [9600, 19200, 38400, 57600, 115200, 230400, 460800]
  newRate : ∀ r, l.newRate = some r → r ∈ [9600, 19200, 38400, 57600, 115200, 230400, 460800]
  queue : l.queue.length ≤ 8
  negated : 6 ≤ l.queue.length → l.partReady = false
  asserted : l.queue.length ≤ 3 → l.partReady = true
  reports : l.reports.length ≤ 32
  losses : l.losses.badLength ≤ 65535 ∧ l.losses.framing ≤ 65535 ∧ l.losses.gap ≤ 65535 ∧ l.losses.badCheck ≤ 65535 ∧
    l.losses.queueFull ≤ 65535
  dispatched : l.slot = none → l.queue = []
  sending : ∀ r, l.tx = some (.reply r) → l.slot = some r
  gap : l.rxAt = none ↔ l.rx = .hunt

/-- Every block is sound. -/
structure State.Sound (s : State) : Prop where
  time : s.time.Sound
  lines : s.LinesSound
  table : s.world.TableSound
  notices : s.world.NoticesSound
  pool : s.world.PoolSound
  uses : s.world.UsesSound
  wall : s.world.WallSound
  pages : s.world.PagesSound
  cues : s.world.CuesSound
  shown : s.world.ShownSound
  plays : s.world.PlaysSound
  dials : ∀ i : Fin 4, s.dials[i].Sound
  link : s.link.Sound

/-! ## The control link around a command -/

/-- No reply in the slot and no request waiting: a request that arrives is dispatched at once (R182). -/
def Link.idle (l : Link) : Prop := l.slot = none ∧ l.queue = []

/-- The link once a request has been taken off an idle link and its reply placed. -/
def Link.replied (r : Reply) (l : Link) : Link := { l with rx := .hunt, rxAt := none, partReady := true, slot := some r }

/-- The link once the command's reports have been placed and an idle transmitter has begun what it can (R184). -/
def Link.carries (l : List Report) (x : Link) : Link := l.foldl (fun x r => (x.place r).kick) x.kick

/-- An OK reply (R183) to a request of a kind. -/
def okReply (kind tag : Nat) (adjusted : Bool) (body : ReplyBody) : Reply :=
  { kind := replyKind kind, tag, status := .ok, adjusted, body }

/-- A refused reply: ADJUSTED is clear (R183). -/
def refusal (kind tag : Nat) (status : Status) (body : ReplyBody) : Reply :=
  { kind := replyKind kind, tag, status, adjusted := false, body }

/-- The command that brings a request (11.5). -/
def requestCommand (dt tag : Nat) : Request → Option Instr
  | .timeSet h => some (.timeSet dt tag h)
  | .timeStep m => some (.timeStep dt tag m)
  | .clockSet mode d => some (.clockSet dt tag mode d)
  | .lineSet r => some (.lineSet dt tag r)
  | .lineClear lines => some (.lineClear dt tag lines)
  | .servicePut r => some (.servicePut dt tag r)
  | .serviceAmend r => some (.serviceAmend dt tag r)
  | .serviceDrop code => some (.serviceDrop dt tag code)
  | .textPut index chars => some (.textPut dt tag index chars)
  | .textDrop index => some (.textDrop dt tag index)
  | .lifecycleSet r => some (.lifecycleSet dt tag r)
  | .noticePut r => some (.noticePut dt tag r)
  | .noticeDrop id => some (.noticeDrop dt tag id)
  | .viewSet n a b c d => some (.viewSet dt tag n a b c d)
  | .composeSet m => some (.composeSet dt tag m)
  | .batchOpen => some (.batchOpen dt tag)
  | .batchClose => some (.batchClose dt tag)
  | .commitSet r => some (.commitSet dt tag r)
  | .stringSet r => some (.stringSet dt tag r)
  | .linkTest n => some (.linkTest dt tag n)
  | .policySet r => some (.policySet dt tag r)
  | .zoneMapSet p c => some (.zoneMapSet dt tag p c)
  | .cuePut r => some (.cuePut dt tag r)
  | .cueCancel h => some (.cueCancel dt tag h)
  | .auSet a b c => some (.auSet dt tag a b c)
  | .dialLineSet l en w => some (.dialLineSet dt tag l en w)
  | .dialSet l d p => some (.dialSet dt tag l d p)
  | .query a b c d => some (.query dt tag a b c d)
  | .restart => some (.restart dt tag)
  | .linkSet rate => some (.linkSet dt tag rate)
  | .malformed => none
  | .unknownKind => none

/-- Bytes as they arrive on a line, each with its stop bit. -/
def arriving (l : List Byte) : List RxChar := l.map fun b => { byte := b, framed := true }

/-! ## Frames -/

/-- Time has run on to an elapsed time, and the lines, the dials and the commands that wait are as they were. -/
structure State.OnlyWorld (target : Nat) (s t : State) : Prop where
  time : t.time = s.time.runTo target
  lines : t.lines = s.lines
  refWindows : t.refWindows = s.refWindows
  dials : t.dials = s.dials
  pending : t.pending = s.pending

/-- Everything but the Time Base, the departure picture, the dials and the link. -/
structure State.SameInputs (s t : State) : Prop where
  lines : t.lines = s.lines
  refWindows : t.refWindows = s.refWindows
  pending : t.pending = s.pending

/-- A text but for its use count. -/
def StoredText.content (t : StoredText) : StoredText := { t with uses := 0 }

/-- A window but for its page index. -/
def Window.given (x : Window) : Window := { x with pageIndex := 0 }

/-- A channel but for the work of a commit on it: its state, queue, exchange, hold timer and link test. -/
def Channel.standing (c : Channel) : Channel :=
  { c with state := .off, queue := [], exchange := none, holdTimer := none, test := none }

/-- The Announcement Link but for its plays and the frames made. -/
def AnnLink.standing (a : AnnLink) : AnnLink := { a with channels := Vector.replicate 4 PlayChannel.reset, made := [] }

/-- The Commit Controller but for the commit itself: the batch, the sweep and the settings. -/
def Commit.standing (c : Commit) : Commit :=
  { Commit.reset with
    batchOpen := c.batchOpen, batchTimer := c.batchTimer, sweepTimer := c.sweepTimer, sweepPos := c.sweepPos,
    settings := c.settings }

/-- What a service record has from the host and its history: all but the lifecycle fields, `announced_delay`, `change_cue`
and `rev`. -/
def Service.hostPart (r : Service) : Service :=
  { r with
    state := .planned, overdue := false, attention := false, changeMs := none, departedMs := none, announced := none,
    changeCue := none, rev := 0#32 }

/-- An evaluation of the record would change nothing and retire nothing. -/
def Service.settled (p : Lifecycle) (e : Env) (r : Service) : Prop := r.evaluate p e = (r, none)

/-- What recomposition, the commit and the cues never change: policies, settings and maps, the stored texts, the batch and the
sweep, the standing of the channels and of the announcement link, and the windows but for their page indices. -/
structure World.Background (w w' : World) : Prop where
  policy : w'.policy = w.policy
  dueHorizon : w'.dueHorizon = w.dueHorizon
  cuePolicy : w'.cuePolicy = w.cuePolicy
  zoneMap : w'.zoneMap = w.zoneMap
  concourse : w'.concourse = w.concourse
  freeCells : w'.freeCells = w.freeCells
  texts : w'.texts.map StoredText.content = w.texts.map StoredText.content
  commit : w'.commit.standing = w.commit.standing
  channels : ∀ n, (w'.channel n).standing = (w.channel n).standing
  windows : ∀ n, ∀ k : Fin 4, (w'.view n).windows[k].given = (w.view n).windows[k].given
  au : w'.au.standing = w.au.standing

/-- Service records and notices come and stay only as the lifecycle has them. Each record is one that stood in the table, as
the host gave it, in the same terminal state where it was in one and in no terminal state where it was in none, and
settled where it was settled; with unique codes, each record that no evaluation retires is still there; each notice is
one that stood in the list. -/
structure World.Lives (e : Env) (w w' : World) : Prop where
  services : ∀ r' ∈ w'.services, ∃ r ∈ w.services, r'.hostPart = r.hostPart ∧
    (r.state.terminal = true → r'.state = r.state) ∧ r'.state.terminal = r.state.terminal ∧
    (r.settled w.policy e → r'.settled w.policy e)
  codes : (w.services.map (·.code)).Nodup → (w'.services.map (·.code)).Nodup
  stays : (w.services.map (·.code)).Nodup → ∀ r ∈ w.services, (r.evaluate w.policy e).2 = none →
    ∃ r' ∈ w'.services, r'.hostPart = r.hostPart ∧ (r'.evaluate w.policy e).2 = none
  notices : ∀ n' ∈ w'.notices, n' ∈ w.notices

/-! ## Recomposition, a wanted commit and the notices (R94, R101, R74) -/

/-- A source whose rows a cause of the Service Table can change (R94). -/
def Source.showsServices : Source → Prop
  | .departures _ _ _ _ => True
  | .platform _ => True
  | _ => False

/-- After the windows of some sources were composed (R82, R94, R95): a row that one enabled window alone covers, of such a source, is as
the string composed as a whole has it, and a row that no such window covers is as it was. -/
def World.Recomposed (shows : Source → Prop) (e : Env) (w w' : World) : Prop :=
  ∀ n : StringNo, ∀ i, i < w'.rowTotal n →
    let v := w'.view n
    let covers (k : Fin 4) : Prop := v.windows[k].enabled = true ∧ v.windows[k].firstRow ≤ i ∧
      i < v.windows[k].firstRow + v.windows[k].rowCount
    (∀ k, covers k → shows v.windows[k].source → (∀ j, covers j → j = k) →
      v.targets[i]? = ((w'.composeString n e).1.view n).targets[i]?) ∧
    ((∀ k, covers k → ¬ shows v.windows[k].source) → v.targets[i]? = (w.view n).targets[i]?)

/-- R101: a commit is wanted. -/
def World.Wants (w : World) : Prop :=
  later w.tableSeq w.commit.wallSeq = true ∨
    ∃ n : StringNo,
      ((w.wall n).lit = .lit ∧ (w.channel n).settings.enabled = true ∧ (w.dirty n ≠ [] ∨ (w.wall n).restage = true)) ∨
        ((w.wall n).lit = .dark ∧ w.ready n = true ∧ (w.wall n).restage = true)

/-- R101, R102: a commit that is wanted after a change of elapsed time `now` is in SETTLING where the Controller was QUIET, its settle
timer running, or expired with a settle time of 0; in any other case the commit is as it was. -/
def World.SettlesFrom (now : Nat) (w w' : World) : Prop :=
  (w.commit.state = .quiet → w'.Wants → w'.commit = { w.commit with
    state := .settling
    settleTimer := if w.commit.settings.settle = 0 then none else some (now + w.commit.settings.settle * 1000) }) ∧
  (w.commit.state ≠ .quiet ∨ ¬ w'.Wants → w'.commit = w.commit)

/-- R74: the start of a notice has come. -/
def Notice.Begun (e : Env) (n : Notice) : Prop := ∀ x, n.startOff = some x → x ≤ e.nms

/-- R74: the end of a notice has come. -/
def Notice.Over (e : Env) (n : Notice) : Prop := ∃ x, n.endOff = some x ∧ x ≤ e.nms

/-- A notice is about no service, or about one that is still in the table (R75). -/
def World.HasScope (w : World) (n : Notice) : Prop := ∀ code, n.scope = .service code → ∃ r ∈ w.services, r.code = code

/-- R74: every notice of a list has been decided at the present time: what is left of it has not ended, is active exactly where its start
has come, and is stamped, with one number, only where that changed; it is still there unless its end has come or its record was
retired; and the end of one is reported EXPIRED. -/
def World.NoticesDecided (l : List Notice) (e : Env) (rs : List Report) (w : World) : Prop :=
  (∃ seq : Seq, ∀ n' ∈ w.notices, ∃ n ∈ l, ¬ n.Over e ∧ (n'.active = true ↔ n.Begun e) ∧
    n' = { n with active := n'.active, rev := if n'.active = n.active then n.rev else seq }) ∧
  ∀ n ∈ l, w.HasScope n →
    (¬ n.Over e → ∃ n' ∈ w.notices, n'.id = n.id) ∧ (n.Over e → Report.noticeEnded n.id .expired e.timeMs ∈ rs)

/-- No notice was decided: each that is left is as it was, and each is still there unless its record was retired (R74, R75). -/
def World.NoticesKept (w w' : World) : Prop :=
  (∀ n' ∈ w'.notices, n' ∈ w.notices) ∧ ∀ n ∈ w.notices, w'.HasScope n → n ∈ w'.notices

/-! ## Crossing the boundary of the service day (R7) -/

/-- Walking forward from T₀, excluded, by a size, the boundary is met (R7, 1). -/
def meetsForward (boundary old : Nat) (delta : Int) : Prop :=
  ∃ k : Nat, 1 ≤ k ∧ (k : Int) ≤ delta ∧ (old + k) % 86400000000 = boundary

/-- Walking backward from T₀, included, by a size, the boundary is met before T₁ (R7, 2). -/
def meetsBackward (boundary old : Nat) (delta : Int) : Prop :=
  ∃ k : Nat, (k : Int) < -delta ∧ ((old : Int) - k) % 86400000000 = boundary

/-- R7: roll held after a step of a size from T₀, D × 60,000,000 being the boundary. -/
def RollAfter (before : TimeBase) (delta : Int) (rollHeld : Bool) : Prop :=
  let boundary := before.dayStart * 60000000
  (meetsForward boundary before.station delta → rollHeld = false) ∧
    (meetsBackward boundary before.station delta → rollHeld = true) ∧
    (¬ meetsForward boundary before.station delta → ¬ meetsBackward boundary before.station delta →
      rollHeld = before.rollHeld)

end Sys2Proof.Machine
end

