-- ==== Sys2Proof/Certificates/Slice0/Obligations.lean ====
section
/-! DEFINITION. Certificates/Slice0/Obligations.lean: the statements for the provers. Each docstring names the rules it comes
from. In a statement about a request the control link is idle before it (`Link.idle`), so that the request is
dispatched as it arrives (R182); what a busy link does with it is stated once, in `ARequestIsRefusedOrWaits`. The
engine that a command `dt` microseconds after the last one finds is `s.after dt`: time has run on, nothing else. -/

open Sys2Proof Sys2Proof.Machine

/-! ## The machine -/

/-- One step takes the command at the front of the queue and runs it on the engine with the queue's rest; with no command
waiting nothing happens (the model's choice, notes/assumptions/3.md). -/
def Obligations.StepRunsTheFrontCommand : Prop :=
  (∀ (s : State) (c : Instr) (rest : List Instr), s.pending = c :: rest → step s = exec c (s.withPending rest)) ∧
    ∀ s : State, s.pending = [] → step s = .next s

/-- POWER_ON_RESET: every block takes the values after reset that its rules give (R1 to R3, R5, R12, R15, R21, R30, R31, R34, R51, R53, R59,
R76 to R78, R90, R93, R99, R100, R115, R117, R120, R131, R132, R139, R145, R146, R156, R157, R161, R168, R169, R171, R178 to R181 and the
tables "Values after reset"): elapsed time and T run from 0, every window is disabled and every target and shown row is EMPTY,
every latch line is given a blank pulse of 10 ms, the sweep timer runs from 0, and every other timer, queue, count, flag and mark is
absent, empty, 0 or clear. The levels of the input pins and the commands that wait are as they were, and a line whose pin is
inactive waits its `min_low` from elapsed time 0 (the model's reading, notes/assumptions/6.md). Of the model's own
fields, no second event is due and nothing is left of an earlier command's reports, work or frames. -/
def Obligations.PowerOnResetRestoresTheDefaults : Prop :=
  ∀ s : State, ∃ t, exec .powerOnReset s = .next t ∧ t.pending = s.pending ∧
    t.time =
      { elapsed := 0, validity := .unsetTime, base := 0, increment := 1000000, trim := 0, slew := 0, mode := .none
        refState := .free, lastPulse := none, pendingStep := none, trimLimit := false, dayStart := 180, rollHeld := false
        stepMark := none, lastError := none, watch := none, due := [] } ∧
    (∀ i : LineNo, t.lines[i] =
      { polarity := .activeHigh, minHigh := 50, maxHigh := 10000, minLow := 50, role := .none, state := .rearm, rise := none
        riseTime := none, gap := none, lastEnd := none, quietFrom := if s.lines[i].pin then none else some 0, lastHigh := 0
        lastLow := 0, highShort := false, highLong := false, stuck := false, glitches := 0, lastGlitch := none
        pin := s.lines[i].pin }) ∧
    t.refWindows = { secLo := 20, secHi := 500, minLo := 100, minHi := 2000 } ∧
    (t.world.services = [] ∧ t.world.tableSeq = 0 ∧ t.world.texts = [] ∧ t.world.freeCells = 1536 ∧ t.world.notices = [] ∧
      t.world.dueHorizon = 15 ∧ t.world.cues = [] ∧ t.world.nextHandle = 1 ∧ t.world.concourse = 1 ∧
      t.world.zoneMap = List.replicate 48 1 ∧ t.world.out = [] ∧ t.world.agenda = []) ∧
    t.world.policy =
      { boardLead := 10, closeLead := 60, departedHold := 120, cancelHold := 10, abandon := 120, changeDisplay := 10 } ∧
    (∀ n : StringNo, (t.world.view n).targets = [.empty] ∧ ∀ k : Fin 4, (t.world.view n).windows[k] =
      { enabled := false, firstRow := 0, rowCount := 1, source := .clock, period := 0, pageIndex := 0, pageTimer := none }) ∧
    t.world.commit =
      { state := .quiet, commitSeq := 0, wallSeq := 0, generation := 0, minutePending := false, settleTimer := none
        deadlineTimer := none, staggerTimer := none, batchOpen := false, batchTimer := none, sweepTimer := some 4000000
        sweepPos := none
        settings := { settle := 200, deadline := 1500, stagger := 40, batchLimit := 10, refresh := 4, reports := false } } ∧
    (∀ n : StringNo,
      t.world.wall n = { shown := [.empty], lit := .dark, restage := true, part := .none, staged := [], cause := none } ∧
      t.world.latch n = { pulses := [{ kind := .blank, ofCommit := false }], ends := some 10000 } ∧
      t.world.channel n =
        { settings :=
            { enabled := false, divI := 260, divF := 3, modules := 1, rows := 1, group := .a, flow := .none, pause := 0xF8
              resume := 0xF9, timeout := 20, retries := 1 }
          state := .off, queue := [], exchange := none, flowStopped := false, busy := (s.world.channel n).busy
          holdTimer := none, faultTimer := none, pollTimer := none, pollPtr := 1, test := none, timedOut := 0, voids := 0
          rejects := 0, modules := (t.world.channel n).modules, lastChar := none } ∧
      ∀ m : Fin 8, (t.world.channel n).modules[m] =
        { health := .ok, missed := 0, reject := false
          flags := { contentLost := false, lampFault := false, overheat := false, mismatch := false } }) ∧
    t.world.cuePolicy =
      { platformChange := { enable := true, priority := 1 }, delay := { enable := true, priority := 2 }
        delayThreshold := 5, delayStep := 5, delayPeriod := 10, delayRepeats := 0
        boarding := { enable := true, priority := 2 }, approach := { enable := true, priority := 1 }, approachLead := 3
        approachDelay := 0, cancellation := { enable := true, priority := 1 }, notice := { enable := true, priority := 3 } } ∧
    t.world.au =
      { channels := t.world.au.channels, available := true, timeouts := 0, statusTimer := none, unitStatus := none
        startTimeout := 2000, playLimit := 120, stopWait := 2000, received := 0, discarded := 0, stray := 0, rx := .hunt
        rxAt := none, made := [] } ∧
    (∀ i : Fin 4, t.world.au.channels[i] = { phase := .free, play := none, timer := none }) ∧
    (∀ i : Fin 4, t.dials[i] =
      { enabled := false, width := 500, dial := 0, next := .plus, distance := 0, state := .stopped, drive := .quiet
        timer := none, pending := none }) ∧
    t.link =
      { rate := 115200, newRate := none, rx := .hunt, rxAt := none, queue := [], partReady := true
        hostReady := s.link.hostReady, slot := none, tx := none, reports := [], reportSeq := 0, dropped := 0
        losses := { badLength := 0, framing := 0, gap := 0, badCheck := 0, queueFull := 0 } }

/-! ## Invariants -/

/-- The state after reset is sound in every block. -/
def Obligations.ResetIsSound : Prop := State.reset.Sound

/-- Every step keeps the Time Base sound: T stays in the clock day, F in -200..+200, the increment in 997,800..1,002,200 (R1,
R18), the mode is NONE exactly where the reference is FREE (R12), the watch and the pending step stand only in LOCKED
(R12, R15), and nothing falls due while UNSET (R3). -/
def Obligations.EveryStepKeepsTheTimeBaseSound : Prop :=
  ∀ s t : State, s.time.Sound → step s = .next t → t.time.Sound

/-- Every step keeps the Line Monitor sound: settings in their ranges and in order (R30, R31), counts in 16 bits (R27, R32),
marks where the state has them (R22), and REF never ACTIVE (R29). -/
def Obligations.EveryStepKeepsTheLinesSound : Prop :=
  ∀ s t : State, s.LinesSound → step s = .next t → t.LinesSound

/-- "The Service Table holds at most 128 records, no two with the same `code`, and keeps them as a list in strictly ascending
order of the triple" (R35): every step keeps the table so, with `eff_sm` equal to `sched_sm` plus the delay.

Every step keeps the Notice List in order: at most 32 notices, one under an id (R71). -/
def Obligations.EveryStepKeepsTheListsInOrder : Prop :=
  (∀ s t : State, s.world.TableSound → step s = .next t → t.world.TableSound) ∧
  (∀ s t : State, s.world.NoticesSound → step s = .next t → t.world.NoticesSound)

/-- "the free cells plus the cells of all stored texts always total 1,536" (R53): every step keeps the pool so, one text under
an index, each of ceil(L / 8) cells.

Every step keeps the use counts (R57): while the tables are sound, each stored text counts the references that records and
notices make to it, and every text that one of them names is stored. -/
def Obligations.EveryStepKeepsTheTextPoolTotal : Prop :=
  (∀ s t : State, s.world.PoolSound → step s = .next t → t.world.PoolSound) ∧
  (∀ s t : State, s.world.TablesSound → step s = .next t → t.world.UsesSound)

/-- Every step keeps the cue table in order: at most 32 cues, one to a slot of 0..31, in ascending order of their slots, no two of
the same kind and subject (R138, R147, R148, R154).

Show before say (R142, R143): every step keeps the `seq` of each QUEUED, STARTING and PLAYING cue no later than wall_seq, and wall_seq no
later than the snapshot commit_seq, both counted back from table_seq; and no two cues of one handle (R139), and a play in STARTING or PLAYING
and its cue in one state. The numbers in use lie in half the range of a sequence number before the step, so that none is lapped. -/
def Obligations.EveryStepKeepsTheCuesInOrder : Prop :=
  (∀ s t : State, s.world.CuesSound → step s = .next t → t.world.CuesSound) ∧
  (∀ s t : State, s.world.CuesSound → s.world.TableSound → s.world.ShownSound →
    s.world.behind s.world.commit.wallSeq < 2 ^ 30 →
    (∀ c ∈ s.world.cues, c.released → s.world.behind c.seq < 2 ^ 31) →
    step s = .next t → t.world.ShownSound) ∧
  ∀ w : World, w.ShownSound → ∀ c ∈ w.cues, c.state = .queued → w.behind c.seq < 2 ^ 31 →
    notEarlier w.commit.wallSeq c.seq = true

/-- Every step keeps the wall sound: a string that is DARK outside a commit has restage-all set and every shown row EMPTY (R99); it has
as many target and shown rows as its row total (R77, R99); a FAILED one has its cause and restage-all (R108); no string has a
part outside a commit (R111), and none is still STAGING once the wall is latched (R108, R110); the settle, deadline and
stagger timers stand only in SETTLING, STAGING and LATCH_A (R102, R105, R110).

Every step keeps each page index in 0..127 (R78), over a Service Table and a Notice List in their bounds (R35, R71). -/
def Obligations.EveryStepKeepsTheWallSound : Prop :=
  (∀ s t : State, s.world.WallSound → step s = .next t → t.world.WallSound) ∧
  (∀ s t : State, s.world.PagesSound → s.world.TableSound → s.world.NoticesSound → step s = .next t → t.world.PagesSound)

/-- Every step keeps the play channels sound: no two plays share a zone (R157, R158), whatever starts, stops or is preempted. -/
def Obligations.EveryStepKeepsThePlaysApart : Prop :=
  ∀ s t : State, s.world.PlaysSound → step s = .next t → t.world.PlaysSound

/-- Every step keeps the slave clock lines sound: dial and distance in 0..719, the width in its range and step (R171, R172), a
drive timer exactly while a pulse or rest runs (R175), and a pending set only during a pulse (R173, R176). -/
def Obligations.EveryStepKeepsTheDialsSound : Prop :=
  ∀ s t : State, (∀ i : Fin 4, s.dials[i].Sound) → step s = .next t → ∀ i : Fin 4, t.dials[i].Sound

/-- "PART_READY is negated when the number held reaches 6 and asserted again when it falls to 3" (R181): every step keeps the
link so, at a rate of R178, its request queue and its report queue (R184) in their depths, its loss counts (R180) at most 65,535,
no request waiting behind an empty reply slot (R182), and a reply being sent only from the slot (R184). -/
def Obligations.EveryStepKeepsTheControlLinkSound : Prop :=
  ∀ s t : State, s.link.Sound → step s = .next t → t.link.Sound

/-! ## Requests as bytes and as commands -/

/-- Reading the body of a request gives the request back, whatever its fields (R187, 11.5). -/
def Obligations.ARequestBodyReadsBack : Prop :=
  ∀ r : Request, r.wf = true → parseRequest (requestKind r) (encodeRequest r) = r

/-- A request's frame, received character by character in HUNT with its check (R179), does what its command does (R182): that the
command of a request stands for one complete good frame is the model's choice (notes/assumptions/4.md). A frame whose body
matches no layout of its kind is answered MALFORMED, and one of no request kind UNKNOWN_KIND, and nothing else changes (R182, R183).

A frame with a bad check, with a length above 1,028, or with a character without its stop bit is lost (R180): there is no reply,
the count of the cause rises by one, stopping at 65,535, LINK_ERROR carries the kind and tag as far as HEADER had taken them,
and the receiver is in HUNT. -/
def Obligations.AFrameDoesWhatItsCommandDoes : Prop :=
  (∀ (s : State) (dt tag : Nat) (r : Request) (c : Instr), r.wf = true → tag < 256 → s.link.rx = .hunt →
    requestCommand dt tag r = some c →
    ∃ t, exec (.requestFrame dt (arriving (hostFrame (requestKind r) tag (encodeRequest r)))) s = .next t ∧
      exec c s = .next t) ∧
  (∀ (s : State) (dt tag kind : Nat) (body : List Byte), s.link.idle → s.link.rx = .hunt → kind < 256 → tag < 256 →
    body.length ≤ 1028 →
    let answered (status : Status) : Prop := ∃ t, exec (.requestFrame dt (arriving (hostFrame kind tag body))) s = .next t ∧
      s.OnlyWorld (s.time.elapsed + dt) t ∧ t.world = s.world.fresh ∧
      t.link = (s.link.replied (refusal kind tag status .empty)).carries []
    (isRequestKind kind = true → parseRequest kind body = .malformed → answered .malformed) ∧
    (isRequestKind kind = false → answered .unknownKind)) ∧
  (∀ (s : State) (dt kind tag : Nat), s.link.rx = .hunt → kind < 256 → tag < 256 →
    let lost (chars : List RxChar) (cause : LossCause) (kind tag count : Nat) (losses : LossCounts) : Prop :=
      ∃ t, exec (.requestFrame dt chars) s = .next t ∧ s.OnlyWorld (s.time.elapsed + dt) t ∧ t.world = s.world.fresh ∧
        t.link = Link.carries [.linkError cause kind tag count ((s.time.elapsed + dt) / 1000)]
          { s.link with losses := losses, rxAt := none }
    let old := s.link.losses
    (∀ body check : List Byte, body.length ≤ 1028 → check.length = 2 →
      check ≠ checkBytes (le 1 kind ++ le 1 tag ++ le 2 body.length ++ body) →
      lost (arriving (0xA5#8 :: (le 1 kind ++ le 1 tag ++ le 2 body.length ++ body ++ check))) .badCheck kind tag
        (min 65535 (old.badCheck + 1)) { old with badCheck := min 65535 (old.badCheck + 1) }) ∧
    (∀ length : Nat, 1028 < length → length < 65536 →
      lost (arriving (0xA5#8 :: (le 1 kind ++ le 1 tag ++ le 2 length))) .badLength kind tag
        (min 65535 (old.badLength + 1)) { old with badLength := min 65535 (old.badLength + 1) }) ∧
    ∀ (body : List Byte) (broken : Byte) (k : Nat), body.length ≤ 1028 → 1 ≤ k → k < body.length + 7 →
      lost (arriving ((hostFrame kind tag body).take k) ++ [{ byte := broken, framed := false }]) .framing
        (if 2 ≤ k then kind else 0) (if 3 ≤ k then tag else 0)
        (min 65535 (old.framing + 1)) { old with framing := min 65535 (old.framing + 1) })

/-- A refused request (R182, R183): "A reply with any status other than OK leaves the engine's state as it was": time runs on,
the reply stands in the slot with ADJUSTED clear, and nothing else changes.

A request that finds a reply in the slot waits in the queue (R181, R182); one that finds the queue full is lost and counted
under QUEUE_FULL with a LINK_ERROR report (R180). Either way no block but the link changes. -/
def Obligations.ARequestIsRefusedOrWaits : Prop :=
  (∀ (s : State) (dt tag : Nat) (r : Request) (c : Instr) (status : Status) (body : ReplyBody), s.link.idle →
    requestCommand dt tag r = some c → (s.after dt).decideRequest r = .refuse status body →
    ∃ t, exec c s = .next t ∧ s.OnlyWorld (s.time.elapsed + dt) t ∧ t.world = s.world.fresh ∧
      t.link = (s.link.replied (refusal (requestKind r) tag status body)).carries []) ∧
  (∀ (s : State) (dt tag : Nat) (r : Request) (c : Instr), s.link.slot ≠ none → requestCommand dt tag r = some c →
    (s.link.queue.length < 8 →
      ∃ t, exec c s = .next t ∧ s.OnlyWorld (s.time.elapsed + dt) t ∧ t.world = s.world.fresh ∧
        t.link = Link.carries [] { s.link with
          rx := .hunt
          rxAt := none
          queue := s.link.queue ++ [{ kind := requestKind r, tag := tag, request := r }]
          partReady := s.link.partReady && decide (s.link.queue.length + 1 < 6) }) ∧
    (8 ≤ s.link.queue.length →
      ∃ t, exec c s = .next t ∧ s.OnlyWorld (s.time.elapsed + dt) t ∧ t.world = s.world.fresh ∧
        t.link = Link.carries
          [.linkError .queueFull (requestKind r) tag (min 65535 (s.link.losses.queueFull + 1)) ((s.time.elapsed + dt) / 1000)]
          { s.link with
            rx := .hunt
            rxAt := none
            losses := { s.link.losses with queueFull := min 65535 (s.link.losses.queueFull + 1) } }))

/-- REPLY_SENT (R184, R182, R178): a report leaves the transmitter; a reply leaves the slot as well, a new rate of a LINK_SET
applies with the receiver in HUNT, and the next request of the queue is dispatched: its owner decides it on the engine's state
at that moment, a refusal is answered and changes nothing else, and a taken request leaves what its decision leaves, its reply
in the slot and its reports placed. That the dispatch comes before the idle transmitter looks, so that its reply goes before a report
that waits, is the model's choice (notes/assumptions/70.md). -/
def Obligations.ReplySentFreesTheSlot : Prop :=
  ∀ (s : State) (dt : Nat),
    (∀ p, s.link.tx = some (.report p) →
      ∃ t, exec (.replySent dt) s = .next t ∧ s.OnlyWorld (s.time.elapsed + dt) t ∧ t.world = s.world.fresh ∧
        t.link = Link.carries [] { s.link with tx := none }) ∧
    (∀ r, s.link.tx = some (.reply r) → s.link.queue = [] →
      ∃ t, exec (.replySent dt) s = .next t ∧ s.OnlyWorld (s.time.elapsed + dt) t ∧ t.world = s.world.fresh ∧
        t.link = Link.carries [] { s.link with
          tx := none
          slot := none
          rate := s.link.newRate.getD s.link.rate
          newRate := none
          rx := if s.link.newRate.isSome then .hunt else s.link.rx
          rxAt := if s.link.newRate.isSome then none else s.link.rxAt }) ∧
    ∀ r q rest, s.link.tx = some (.reply r) → s.link.queue = q :: rest →
      let u : State := (s.after dt).setLink { s.link with
        tx := none
        slot := none
        queue := rest
        partReady := s.link.partReady || decide (rest.length ≤ 3)
        rate := s.link.newRate.getD s.link.rate
        newRate := none
        rx := if s.link.newRate.isSome then .hunt else s.link.rx
        rxAt := if s.link.newRate.isSome then none else s.link.rxAt }
      (∀ status body, u.decideRequest q.request = .refuse status body →
        ∃ t, exec (.replySent dt) s = .next t ∧ s.OnlyWorld (s.time.elapsed + dt) t ∧ t.world = s.world.fresh ∧
          t.link = Link.carries [] { u.link with slot := some (refusal q.kind q.tag status body) }) ∧
      ∀ adjusted body v, u.decideRequest q.request = .take adjusted body v →
        ∃ t, exec (.replySent dt) s = .next t ∧ t.time = v.time ∧ t.lines = v.lines ∧ t.refWindows = v.refWindows ∧
          t.dials = v.dials ∧ t.pending = v.pending ∧ t.world = { v.world with out := [] } ∧
          t.link = Link.carries v.world.out { v.link with slot := some (okReply q.kind q.tag adjusted body) }

/-- UNKNOWN_KIND, HOST_READY and CL_GAP (R180, R182, R184): a kind that is no request kind is answered UNKNOWN_KIND; HOST_READY lets an
idle transmitter begin, or holds it; a silence inside a frame loses the frame, at the first whole microsecond at which more than four
byte times have passed since its last character (the model's rounding, notes/assumptions/25.md), where that lies in the silence, and
the step ends there (notes/assumptions/1.md); a shorter one, or one behind no character of a frame,
only lets its time pass.

QUERY and LINK_SET (R178, R185): a query that is answered changes nothing but the link; a listed rate is kept until its reply has
been sent, and any other is refused OUT_OF_RANGE. -/
def Obligations.TheLinkAnswersAndLosesAsItMust : Prop :=
  ((∀ (s : State) (dt tag kind : Nat), s.link.idle → isRequestKind kind = false →
    ∃ t, exec (.unknownKind dt tag kind) s = .next t ∧ s.OnlyWorld (s.time.elapsed + dt) t ∧ t.world = s.world.fresh ∧
      t.link = (s.link.replied (refusal kind tag .unknownKind .empty)).carries []) ∧
  (∀ (s : State) (dt : Nat) (asserted : Bool),
    ∃ t, exec (.hostReady dt asserted) s = .next t ∧ s.OnlyWorld (s.time.elapsed + dt) t ∧ t.world = s.world.fresh ∧
      t.link = Link.carries [] { s.link with hostReady := asserted }) ∧
  (∀ (s : State) (dt : Nat), (∀ x, s.link.rxAt = some x → s.time.elapsed + dt < x + 40000000 / s.link.rate + 1) →
    ∃ t, exec (.clGap dt) s = .next t ∧ s.OnlyWorld (s.time.elapsed + dt) t ∧ t.world = s.world.fresh ∧
      t.link = s.link.carries []) ∧
  ∀ (s : State) (dt x : Nat), s.link.rxAt = some x → s.link.rx ≠ .hunt →
    let found := x + 40000000 / s.link.rate + 1
    found ≤ s.time.elapsed + dt →
    ∃ t, exec (.clGap dt) s = .next t ∧ s.OnlyWorld found t ∧ t.world = s.world.fresh ∧
      t.link = Link.carries
        [.linkError .gap s.link.rx.kindTag.1 s.link.rx.kindTag.2 (min 65535 (s.link.losses.gap + 1))
          (max s.time.elapsed found / 1000)]
        { s.link with
          rx := .hunt
          rxAt := none
          losses := { s.link.losses with gap := min 65535 (s.link.losses.gap + 1) } }) ∧
  ((∀ (s : State) (dt tag subject parameter first count : Nat) (adjusted : Bool) (body : ReplyBody) (bytes : List Byte),
    s.link.idle →
    ((s.after dt).setLink { s.link with rx := .hunt, rxAt := none, partReady := true }).query subject parameter first count =
      .take adjusted body bytes →
    ∃ t, exec (.query dt tag subject parameter first count) s = .next t ∧ s.OnlyWorld (s.time.elapsed + dt) t ∧
      t.world = s.world.fresh ∧ t.link = (s.link.replied (okReply 0x1F tag false (.query bytes))).carries []) ∧
  ∀ (s : State) (dt tag rate : Nat), s.link.idle →
    ∃ t, exec (.linkSet dt tag rate) s = .next t ∧ s.OnlyWorld (s.time.elapsed + dt) t ∧ t.world = s.world.fresh ∧
      t.link =
        if rate ∈ [9600, 19200, 38400, 57600, 115200, 230400, 460800] then
          ({ s.link with newRate := some rate }.replied (okReply 0x21 tag false .empty)).carries []
        else (s.link.replied (refusal 0x21 tag .outOfRange .empty)).carries [])

/-- RESTART (R186, R34, R51, R53, R76, R97, R99, R100, R118, R121, R130, R133, R136, R137, R139, R156, R164, R170): the tables, the texts, the
notices and the cue table are emptied, every flag and count of the lines is cleared, every report that waited is discarded,
and the reply is OK; time, the dials, the settings, the windows but for their page indices and the next handle are kept. Every enabled string is given a blank pulse behind
the pulse on its line, the latch pulses that have not begun are not sent, and it is DARK with every shown row EMPTY and restage-all
set; no string has a part. wall_seq, commit_seq and the generation are 0, the batch is CLOSED, the commit's timers are absent and the
sweep is kept. Every channel's queue is flushed, a STAGE_ROW exchange on the line goes on as an orphan, and HELD ends. A ready string
makes a commit wanted: SETTLING is entered, or, with a settle time of 0, the ready strings are staged whole at once. A play
that was STARTING or PLAYING is STOPPING, its STOP sent; other channels run on. A link test that waited, with no exchange on the
line once the queue is flushed, begins (R136). These points are the model's: that the STOP
frames go in ascending channel number (notes/assumptions/58.md); that the reports of
RESTART's own work are discarded with the rest, before they take a number (notes/assumptions/26.md); that the frame of the
exchange on the line stays at the head of a flushed queue, and a POLL between two attempts is flushed (notes/assumptions/35.md); that a
waiting test begins there and then and waits 18 byte times for its characters (notes/assumptions/52.md), taken up to a whole microsecond
(notes/assumptions/25.md); and, as everywhere, the work that the request's own step does, the staging at a settle time of 0 with it
(notes/assumptions/10.md, notes/assumptions/30.md). -/
def Obligations.RestartEmptiesThePicture : Prop :=
  ∀ (s : State) (dt tag : Nat), s.link.idle →
    let now := s.time.elapsed + dt
    let w := s.world
    let wants := ∃ n, w.ready n = true
    let flushed (c : Channel) : Channel := { c with
      queue := if c.state = .sending ∨ c.state = .waiting then c.queue.take 1 else []
      exchange := c.exchange.map fun x => { x with orphan := x.orphan || x.frame.isStage }
      state := if c.state = .held then .ready else c.state
      holdTimer := if c.state = .held then none else c.holdTimer
      test := if c.test = some .waiting ∧ c.state ≠ .sending ∧ c.state ≠ .waiting then
        some (.running [] (now + (18 * (8 * c.settings.divI + c.settings.divF) + 3) / 4)) else c.test }
    let blanked (l : LatchLine) : LatchLine :=
      { l with pulses := (l.pulses.take 1 ++ (l.pulses.drop 1).filter (·.kind == .blank)).map fun p =>
          { p with ofCommit := false } }
    let darkened (n : StringNo) : Wall :=
      if (w.channel n).settings.enabled then
        { shown := List.replicate (w.rowTotal n) .empty, lit := .dark, restage := true, part := .none, staged := [], cause := none }
      else { w.wall n with part := .none, staged := [], cause := none }
    let aborted (state : CommitState) (settles latest : Option Nat) : Commit := { w.commit with
      state := state, commitSeq := 0, wallSeq := 0, generation := 0, minutePending := false, settleTimer := settles
      deadlineTimer := latest, staggerTimer := none, batchOpen := false, batchTimer := none }
    ∃ t, exec (.restart dt tag) s = .next t ∧ t.time = s.time.runTo now ∧ t.dials = s.dials ∧
      t.refWindows = s.refWindows ∧ t.pending = s.pending ∧
      (∀ i : LineNo, t.lines[i] = { s.lines[i] with
        highShort := false, highLong := false, stuck := false, glitches := 0, lastGlitch := none }) ∧
      t.world.services = [] ∧ t.world.tableSeq = 0 ∧ t.world.texts = [] ∧ t.world.freeCells = 1536 ∧ t.world.notices = [] ∧
      t.world.cues = [] ∧ t.world.nextHandle = w.nextHandle ∧ t.world.policy = w.policy ∧
      t.world.cuePolicy = w.cuePolicy ∧ t.world.zoneMap = w.zoneMap ∧ t.world.concourse = w.concourse ∧
      t.world.dueHorizon = w.dueHorizon ∧
      (∀ n, ∀ k : Fin 4, (t.world.view n).windows[k].given = (w.view n).windows[k].given) ∧
      (∀ n, t.world.latch n =
        if (w.channel n).settings.enabled then (blanked (w.latch n)).ask .blank false now else blanked (w.latch n)) ∧
      (w.commit.settings.settle ≠ 0 →
        t.world.commit = aborted (if wants then .settling else .quiet)
          (if wants then some (now + w.commit.settings.settle * 1000) else none) none ∧
        ∀ n, t.world.wall n = darkened n ∧ t.world.channel n = flushed (w.channel n)) ∧
      (w.commit.settings.settle = 0 → w.WallSound →
        t.world.commit = aborted (if wants then .staging else .quiet) none
          (if wants then some (now + w.commit.settings.deadline * 1000) else none) ∧
        ∀ n,
          let rows := (List.range (w.rowTotal n)).map fun i =>
            ({ row := i, rowRec := (t.world.view n).targets.getD i .empty, acked := false } : StagedRow)
          t.world.wall n = (if w.ready n then { darkened n with part := .staging, restage := false, staged := rows } else darkened n) ∧
          t.world.channel n = (if w.ready n then (flushed (w.channel n)).queueStages rows else flushed (w.channel n))) ∧
      (∀ i : Fin 4, t.world.au.channels[i] =
        if w.au.channels[i].phase = .starting ∨ w.au.channels[i].phase = .playing then
          if w.au.channels[i].play = none then w.au.channels[i]
          else { w.au.channels[i] with phase := .stopping, timer := some (now + w.au.stopWait * 1000) }
        else w.au.channels[i]) ∧
      t.world.au = { w.au with
        channels := t.world.au.channels
        made := [0, 1, 2, 3].flatMap fun i : Fin 4 =>
          if w.au.channels[i].phase = .starting ∨ w.au.channels[i].phase = .playing then
            w.au.channels[i].play.toList.map fun p => .stop p.handle
          else [] } ∧
      t.link = ({ s.link with reports := [] }.replied (okReply 0x20 tag false .empty)).carries []

/-! ## Time -/

/-- TIME_SET while UNSET (R8): T becomes the host's time, validity SET; S, the pending step and roll held are cleared, the last step
mark is recorded, and F, the reference and the day-start minute are as they were. Every slave clock line is evaluated
(R174).

TIME_SET while SET (R9, R10, R7): outside LOCKED T becomes the host's time and S is cleared; in LOCKED T becomes the value congruent
to the present phase of the reference period that lies nearest the host's time, the later of two, and S is kept. F and
the reference are kept and the pending step is cleared. The size is taken the shorter way round the clock and roll
held follows R7.

TIME_STEP (R11, R7): T moves by whole minutes round midnight, in the direction of the sign; S, F, the reference and the
pending step are kept, roll held follows R7, and every slave clock line is evaluated (R174).

A TIME_SET above 86,399,999 and a TIME_STEP of 0 or beyond 1440 minutes are refused OUT_OF_RANGE, and any other TIME_STEP while UNSET
is refused WRONG_STATE (R8, R11). A nominal second that begins at the request's own moment has begun before it (the model's choice,
notes/assumptions/63.md). -/
def Obligations.TimeRequestsMoveTheTime : Prop :=
  (∀ (s : State) (dt tag h : Nat), s.link.idle → s.time.validity = .unsetTime → h ≤ 86399999 →
    ∃ t rs, exec (.timeSet dt tag h) s = .next t ∧ s.SameInputs t ∧
      t.time = { s.time.runTo (s.time.elapsed + dt) with
        base := t.time.base, validity := .setTime, slew := 0, pendingStep := none, rollHeld := false,
        stepMark := some (s.time.elapsed + dt) } ∧
      t.time.station = h * 1000 ∧ s.world.Background t.world ∧
      (∀ i : Fin 4, t.dials[i] = s.dials[i].evaluate t.env) ∧
      t.link = (s.link.replied (okReply 0x01 tag false .empty)).carries rs) ∧
  (∀ (s : State) (dt tag h : Nat), s.link.idle → s.time.validity = .setTime → s.time.dayStart ≤ 1439 → h ≤ 86399999 →
    let now := s.time.runTo (s.time.elapsed + dt)
    ∃ t rs, exec (.timeSet dt tag h) s = .next t ∧ s.SameInputs t ∧
      t.time = { now with
        base := t.time.base, slew := if now.refState = .locked then now.slew else 0, pendingStep := none,
        rollHeld := t.time.rollHeld, stepMark := t.time.stepMark } ∧
      (now.refState ≠ .locked → t.time.station = h * 1000) ∧
      (now.refState = .locked → ∃ near : Int, (near - now.station) % now.mode.period = 0 ∧
        -now.mode.period < 2 * (near - h * 1000) ∧ 2 * (near - h * 1000) ≤ now.mode.period ∧
        (t.time.station : Int) = near % 86400000000) ∧
      (∃ delta : Int, -43200000000 ≤ delta ∧ delta < 43200000000 ∧
        (t.time.station : Int) = (now.station + delta) % 86400000000 ∧ RollAfter now delta t.time.rollHeld ∧
        t.time.stepMark = if delta = 0 then now.stepMark else some now.elapsed) ∧
      s.world.Background t.world ∧ t.link = (s.link.replied (okReply 0x01 tag false .empty)).carries rs) ∧
  (∀ (s : State) (dt tag : Nat) (minutes : Int), s.link.idle → s.time.validity = .setTime → s.time.dayStart ≤ 1439 →
    minutes ≠ 0 → -1440 ≤ minutes → minutes ≤ 1440 →
    let now := s.time.runTo (s.time.elapsed + dt)
    ∃ t rs, exec (.timeStep dt tag minutes) s = .next t ∧ s.SameInputs t ∧
      t.time = { now with base := t.time.base, rollHeld := t.time.rollHeld, stepMark := some now.elapsed } ∧
      (t.time.station : Int) = (now.station + minutes * 60000000) % 86400000000 ∧
      RollAfter now (minutes * 60000000) t.time.rollHeld ∧ s.world.Background t.world ∧
      (∀ i : Fin 4, t.dials[i] = s.dials[i].evaluate t.env) ∧
      t.link = (s.link.replied (okReply 0x02 tag false .empty)).carries rs) ∧
  ∀ (s : State) (dt tag : Nat), s.link.idle →
    let refusedWith (cmd : Instr) (kind : Nat) (status : Status) : Prop := ∃ t, exec cmd s = .next t ∧
      s.OnlyWorld (s.time.elapsed + dt) t ∧ t.world = s.world.fresh ∧
      t.link = (s.link.replied (refusal kind tag status .empty)).carries []
    (∀ h, 86399999 < h → refusedWith (.timeSet dt tag h) 0x01 .outOfRange) ∧
    ∀ minutes : Int, (minutes = 0 ∨ minutes < -1440 ∨ 1440 < minutes → refusedWith (.timeStep dt tag minutes) 0x02 .outOfRange) ∧
      (minutes ≠ 0 → -1440 ≤ minutes → minutes ≤ 1440 → s.time.validity = .unsetTime →
        refusedWith (.timeStep dt tag minutes) 0x02 .wrongState)

/-- CLOCK_SET (R12): a D above 1439, or a changed one over a table or list that is not empty, is refused, and so is a mode that R12
does not name (the model's choice, notes/assumptions/36.md); a changed D clears roll held;
a changed mode makes the reference FREE or ACQUIRING and discards the last counted pulse, the pending step, TRIM_LIMIT
and the watch, and a change of reference state is reported with the new mode (R20; the mode is the model's choice,
notes/assumptions/54.md).

NOMINAL_SECOND (R1): at the start of the next nominal second the slew share s = sign(S) × min(|S|, 2000) leaves S and the increment
is 1,000,000 + F + s; T at that start is T at the start of this second plus this second's increment.

WATCH_EXPIRY (R15, R20): at the watch's expiry the reference becomes HOLDOVER and the pending step is cleared, with a
REFERENCE_STATE report; F and S are kept (R16). -/
def Obligations.TheClockKeepsItsRate : Prop :=
  (∀ (s : State) (dt tag d : Nat) (mode : RefMode), s.link.idle →
    let now := s.time.runTo (s.time.elapsed + dt)
    let keep := s.world.services = [] ∧ s.world.notices = []
    (∀ code, 2 < code → ∃ t, exec (.clockSet dt tag code d) s = .next t ∧ s.OnlyWorld (s.time.elapsed + dt) t ∧
      t.world = s.world.fresh ∧ t.link = (s.link.replied (refusal 0x03 tag .outOfRange .empty)).carries []) ∧
    (1439 < d → ∃ t, exec (.clockSet dt tag mode.code d) s = .next t ∧ s.OnlyWorld (s.time.elapsed + dt) t ∧
      t.world = s.world.fresh ∧ t.link = (s.link.replied (refusal 0x03 tag .outOfRange .empty)).carries []) ∧
    (d ≤ 1439 → d ≠ now.dayStart → ¬ keep →
      ∃ t, exec (.clockSet dt tag mode.code d) s = .next t ∧ s.OnlyWorld (s.time.elapsed + dt) t ∧
        t.world = s.world.fresh ∧ t.link = (s.link.replied (refusal 0x03 tag .wrongState .empty)).carries []) ∧
    (d ≤ 1439 → (d = now.dayStart ∨ keep) →
      ∃ t, exec (.clockSet dt tag mode.code d) s = .next t ∧ s.SameInputs t ∧ t.dials = s.dials ∧
        t.world = s.world.fresh ∧
        (let refState := if mode = now.mode then now.refState else if mode = .none then .free else .acquiring
        t.time = { now with
            dayStart := d
            rollHeld := if d = now.dayStart then now.rollHeld else false
            mode := mode
            refState := refState
            lastPulse := if mode = now.mode then now.lastPulse else none
            pendingStep := if mode = now.mode then now.pendingStep else none
            trimLimit := if mode = now.mode then now.trimLimit else false
            watch := if mode = now.mode then now.watch else none } ∧
          t.link = (s.link.replied (okReply 0x03 tag false .empty)).carries
            (if refState = now.refState then [] else [.referenceState now.refState refState mode now.trim])))) ∧
  (∀ s : State, ∃ t, exec .nominalSecond s = .next t ∧ s.SameInputs t ∧ t.dials = s.dials ∧ t.world = s.world.fresh ∧
    t.link = s.link.carries [] ∧
    (let share := s.time.slew.sign * min (s.time.slew.natAbs : Int) 2000
    t.time = { s.time with
      elapsed := (s.time.elapsed / 1000000 + 1) * 1000000
      base := (s.time.base + s.time.increment) % 86400000000
      slew := s.time.slew - share
      increment := (1000000 + s.time.trim + share).toNat
      due := t.time.due }) ∧
    (s.time.validity = .unsetTime → t.time.due = s.time.due)) ∧
  (∀ (s : State) (x : Nat), s.time.watch = some x → s.time.refState = .locked →
    ∃ t, exec .watchExpiry s = .next t ∧ s.SameInputs t ∧ t.dials = s.dials ∧ t.world = s.world.fresh ∧
      t.time = { s.time.runTo x with refState := .holdover, pendingStep := none, watch := none } ∧
      t.link = s.link.carries [.referenceState .locked .holdover s.time.mode s.time.trim])

/-- SECOND_EVENT (R4, R5): while SET time runs to the first moment at which running T passes a whole second, and at the boundary of the
service day roll held is clear afterwards; while UNSET nothing but time changes. A whole second passed before and not
yet taken is taken first (the model's choice, notes/assumptions/2.md). -/
def Obligations.ASecondEventComesAtTheNextWholeSecond : Prop :=
  ∀ s : State, s.time.Sound → s.time.due = [] →
    (s.time.validity = .setTime →
      ∃ t b rs, exec .secondEvent s = .next t ∧ s.SameInputs t ∧ s.time.elapsed < t.time.elapsed ∧
        (s.time.runTo t.time.elapsed).due = [b] ∧ b % 1000000 = 0 ∧ b < 86400000000 ∧
        (∀ x, x < t.time.elapsed → (s.time.runTo x).due = []) ∧
        t.time = { s.time.runTo t.time.elapsed with
          due := []
          rollHeld := if b = s.time.dayStart * 60000000 then false else s.time.rollHeld } ∧
        s.world.Background t.world ∧
        (∀ i : Fin 4, t.dials[i] = if b % 60000000 = 0 then s.dials[i].evaluate t.env else s.dials[i]) ∧
        t.link = s.link.carries rs) ∧
    (s.time.validity = .unsetTime →
      ∃ t, exec .secondEvent s = .next t ∧ s.OnlyWorld t.time.elapsed t ∧ s.time.elapsed < t.time.elapsed ∧
        t.world = s.world.fresh ∧ t.link = s.link.carries []) ∧
    ∀ (u : State) (b : Nat) (rest : List Nat), u.time.due = b :: rest →
      ∃ t rs, exec .secondEvent u = .next t ∧ u.SameInputs t ∧
        t.time = { u.time with
          due := rest
          rollHeld := if b = u.time.dayStart * 60000000 then false else u.time.rollHeld } ∧
        u.world.Background t.world ∧
        (∀ i : Fin 4, t.dials[i] = if b % 60000000 = 0 then u.dials[i].evaluate t.env else u.dials[i]) ∧
        t.link = u.link.carries rs

/-- One evaluation of a record (R60 to R64, R66, R67), r being its time to departure: nothing while UNSET. Otherwise an absent mark, or one
whose age is negative, becomes the present time; a terminal state stays, a record without a platform is PLANNED, and one that has
opened, or whose r has come within its lead, is CLOSING within the close lead and else BOARDING; `overdue` is set from -60,000 down,
cleared above 0 and in a terminal state; `attention` is cleared once the change display time has passed and no announcement is
waited on; a DEPARTED, CANCELLED or overdue record retires after its hold; and every other field stays.

R60, R61: after a second event, whether its whole second had passed before or the event runs on to it, a TIME_STEP, a TIME_SET that set or
moved T, or a GAP_CONFIRMED of REF whose pulse stepped T (R19), over a table of unique codes, every record that is still in the
table is settled: evaluating it again at that time would change nothing and retire nothing. That a whole second passed before is taken
by the next SECOND_EVENT, and evaluates the records at the present time and not at its own, is the model's choice
(notes/assumptions/2.md). -/
def Obligations.EveryRecordIsEvaluated : Prop :=
  (∀ (p : Lifecycle) (e : Env) (r : Service),
    let x := (r.evaluate p e).1
    let left : Int := r.effSm * 60000 - e.nms
    let lead : Nat := if r.boardLead = 0 then p.boardLead else r.boardLead
    let ended := r.state = .departed ∨ r.state = .cancelled
    let opened := r.state ≠ .planned ∨ left ≤ lead * 60000
    let age (mark : Nat) : Int := ((e.timeMs : Int) - mark + 43200000) % 86400000 - 43200000
    let right (mark : Option Nat) : Option Nat := match mark with
      | some m => if age m < 0 then some e.timeMs else some m
      | none => some e.timeMs
    let since (mark : Option Nat) : Int := match mark with
      | some m => max 0 (age m)
      | none => 0
    (e.valid = false → r.evaluate p e = (r, none)) ∧
    (e.valid = true →
      x = { r with
        state := x.state, overdue := x.overdue, attention := x.attention
        departedMs := if r.state = .departed then right r.departedMs else r.departedMs
        changeMs := if r.attention = true then right r.changeMs else r.changeMs } ∧
      (ended → x.state = r.state) ∧
      (¬ ended → r.platform = 0 ∨ ¬ opened → x.state = .planned) ∧
      (¬ ended → r.platform ≠ 0 → opened → x.state = if left ≤ p.closeLead * 1000 then .closing else .boarding) ∧
      (x.overdue = true ↔ ¬ ended ∧ (left ≤ -60000 ∨ left ≤ 0 ∧ r.overdue = true)) ∧
      (x.attention = true ↔ r.attention = true ∧
        (since r.changeMs < p.changeDisplay * 60000 ∨ ∃ c, r.changeCue = some c ∧ c.heard = false)) ∧
      (r.evaluate p e).2 =
        if r.state = .departed then (if p.departedHold * 1000 ≤ since r.departedMs then some .departed else none)
        else if r.state = .cancelled then (if left ≤ -(p.cancelHold * 60000) then some .cancelled else none)
        else if x.overdue = true ∧ left ≤ -(p.abandon * 60000) then some .abandoned else none)) ∧
  ∀ s t : State, (s.world.services.map (·.code)).Nodup →
    (s.time.due ≠ [] ∨ s.time.Sound → exec .secondEvent s = .next t → ∀ r ∈ t.world.services, r.settled t.world.policy t.env) ∧
    (t.time.station ≠ (s.time.runTo t.time.elapsed).station → exec (.gapConfirmed refLine) s = .next t →
      ∀ r ∈ t.world.services, r.settled t.world.policy t.env) ∧
    (∀ dt tag minutes, s.link.idle → minutes ≠ 0 → -1440 ≤ minutes → minutes ≤ 1440 →
      exec (.timeStep dt tag minutes) s = .next t → ∀ r ∈ t.world.services, r.settled t.world.policy t.env) ∧
    ∀ dt tag h, s.link.idle → h ≤ 86399999 →
      (s.time.validity = .unsetTime ∨ t.time.station ≠ (s.time.runTo (s.time.elapsed + dt)).station) →
      exec (.timeSet dt tag h) s = .next t → ∀ r ∈ t.world.services, r.settled t.world.policy t.env

/-- The day roll (R5, R7, R69). When running T reaches the day-start minute with roll held clear, whether that boundary had passed
before the SECOND_EVENT or the event runs on to it, every record of 1440 service minutes or later is carried back by 1440 and stays
unless its evaluation then retires it, and no other record stays; with roll held set running T only clears it, and each record
stays unless its evaluation retires it.

A step of T forward over the boundary, by TIME_STEP, TIME_SET or a reference pulse, carries the table so too where roll held is clear;
any other step, a backward one or one that finds roll held set, makes no day roll: each record stays unless its evaluation
retires it. Of TIME_SET and of a pulse, the step is taken the shorter way round the clock (R9). At any other whole second (R4, R60) too a
record stays as the host gave it unless its evaluation retires it. That a boundary or another whole second passed before is taken by the
next SECOND_EVENT, and evaluates the records at the present time and not at its own, is the model's choice
(notes/assumptions/2.md). -/
def Obligations.TheDayRollCarriesTheTable : Prop :=
  ∀ s t : State, (s.world.services.map (·.code)).Nodup →
    let carried (r : Service) : Service := { r with schedSm := r.schedSm - 1440, effSm := r.effSm - 1440 }
    let boundary := s.time.dayStart * 60000000
    let rolled : Prop :=
      (∀ r' ∈ t.world.services, ∃ r ∈ s.world.services, 1440 ≤ r.effSm ∧ r'.hostPart = (carried r).hostPart) ∧
      ∀ r ∈ s.world.services, 1440 ≤ r.effSm → ((carried r).evaluate s.world.policy t.env).2 = none →
        ∃ r' ∈ t.world.services, r'.hostPart = (carried r).hostPart
    let kept : Prop :=
      (∀ r' ∈ t.world.services, ∃ r ∈ s.world.services, r'.hostPart = r.hostPart) ∧
      ∀ r ∈ s.world.services, (r.evaluate s.world.policy t.env).2 = none → ∃ r' ∈ t.world.services, r'.hostPart = r.hostPart
    let stepped (now : TimeBase) (delta : Int) : Prop :=
      (meetsForward boundary now.station delta → s.time.rollHeld = false → rolled) ∧
      (¬ meetsForward boundary now.station delta ∨ s.time.rollHeld = true → kept)
    let shorter (now : TimeBase) : Prop := ∀ delta : Int, -43200000000 ≤ delta → delta < 43200000000 →
      (t.time.station : Int) = (now.station + delta) % 86400000000 → stepped now delta
    ((∃ rest, s.time.due = boundary :: rest) ∨
        s.time.due = [] ∧ s.time.Sound ∧ (s.time.runTo t.time.elapsed).due = [boundary] →
      exec .secondEvent s = .next t →
      t.time.rollHeld = false ∧ (s.time.rollHeld = false → rolled) ∧ (s.time.rollHeld = true → kept)) ∧
    (∀ b, (∃ rest, s.time.due = b :: rest) ∨ s.time.due = [] ∧ s.time.Sound ∧ (s.time.runTo t.time.elapsed).due = [b] →
      b ≠ boundary → exec .secondEvent s = .next t → kept) ∧
    (s.time.validity = .setTime → s.time.dayStart ≤ 1439 →
      (∀ dt tag minutes, s.link.idle → minutes ≠ 0 → -1440 ≤ minutes → minutes ≤ 1440 →
        exec (.timeStep dt tag minutes) s = .next t →
        stepped (s.time.runTo (s.time.elapsed + dt)) (minutes * 60000000)) ∧
      (∀ dt tag h, s.link.idle → h ≤ 86399999 → exec (.timeSet dt tag h) s = .next t →
        shorter (s.time.runTo (s.time.elapsed + dt))) ∧
      (exec (.gapConfirmed refLine) s = .next t → shorter (s.time.runTo t.time.elapsed)))

/-- LINE_SET of an event line (R30): the durations are clamped, the role is taken, and a change of polarity or of a duration puts the
monitor in REARM with the level in progress abandoned; a setting that changes nothing but the role leaves the state. A
`max_high` that is not 0 and not above `min_high` is refused CONFLICT, and a line outside EL1 to EL12 and REF, a role that R30 does not
name or a platform of a role outside 1..48 OUT_OF_RANGE. The numbers of the roles are the model's choice (notes/assumptions/45.md).

LINE_SET of REF (R31): its windows and durations are clamped; a role, windows out of order, or a `max_high` not above both windows
is refused. A change of polarity, `min_low` or `max_high` puts the monitor in REARM as for an event line, and a change of a window
alone leaves it as it is.

LINE_CLEAR (R33): the latched flags of each line named are cleared and nothing else of any line changes, a suspension and the
glitch count included; an empty set is refused OUT_OF_RANGE, and so is one beyond REF (the model's choice,
notes/assumptions/36.md). -/
def Obligations.TheLinesAreSetAndCleared : Prop :=
  (∀ (s : State) (dt tag : Nat) (i : LineNo) (p : Polarity) (minHigh maxHigh minLow role platform : Nat) (r : Role),
    s.link.idle → i ≠ refLine → Role.ofCode role platform = some r →
    let a := max 10 (min 5000 minHigh)
    let b := if maxHigh = 0 then 0 else max 100 (min 60000 maxHigh)
    let c := max 10 (min 5000 minLow)
    let m := s.lines[i]
    let cmd : Instr := .lineSet dt tag (.event (i.val + 1) p.code minHigh maxHigh minLow role platform)
    (b ≠ 0 ∧ b ≤ a → ∃ t, exec cmd s = .next t ∧ s.OnlyWorld (s.time.elapsed + dt) t ∧ t.world = s.world.fresh ∧
      t.link = (s.link.replied (refusal 0x04 tag .conflict .empty)).carries []) ∧
    (¬ (b ≠ 0 ∧ b ≤ a) →
      ∃ t, exec cmd s = .next t ∧ t.time = s.time.runTo (s.time.elapsed + dt) ∧ t.refWindows = s.refWindows ∧
        t.dials = s.dials ∧ t.pending = s.pending ∧ t.world = s.world.fresh ∧ (∀ j, j ≠ i → t.lines[j] = s.lines[j]) ∧
        t.link = (s.link.replied (okReply 0x04 tag (a != minHigh || b != maxHigh || c != minLow) .empty)).carries [] ∧
        (m.polarity = p ∧ m.minHigh = a ∧ m.maxHigh = b ∧ m.minLow = c → t.lines[i] = { m with role := r }) ∧
        (¬ (m.polarity = p ∧ m.minHigh = a ∧ m.maxHigh = b ∧ m.minLow = c) →
          t.lines[i] = { m with
            polarity := p, minHigh := a, maxHigh := b, minLow := c, role := r, state := .rearm, rise := none
            riseTime := none, gap := none, quietFrom := t.lines[i].quietFrom } ∧
          (m.pin = (p == .activeHigh) → t.lines[i].quietFrom = none)))) ∧
  (∀ (s : State) (dt tag line : Nat) (p : Polarity) (minHigh maxHigh minLow role platform : Nat), s.link.idle →
    line = 0 ∨ 12 < line ∨ 2 < role ∨ role ≠ 0 ∧ (platform = 0 ∨ 48 < platform) →
    ∃ t, exec (.lineSet dt tag (.event line p.code minHigh maxHigh minLow role platform)) s = .next t ∧
      s.OnlyWorld (s.time.elapsed + dt) t ∧ t.world = s.world.fresh ∧
      t.link = (s.link.replied (refusal 0x04 tag .outOfRange .empty)).carries []) ∧
  (∀ (s : State) (dt tag : Nat) (p : Polarity) (minLow maxHigh secLo secHi minLo minHi role : Nat), s.link.idle →
    let b := if maxHigh = 0 then 0 else max 100 (min 60000 maxHigh)
    let c := max 10 (min 5000 minLow)
    let w : RefWindows :=
      { secLo := max 10 (min 900 secLo), secHi := max 10 (min 900 secHi)
        minLo := max 10 (min 30000 minLo), minHi := max 10 (min 30000 minHi) }
    let m := s.lines[refLine]
    let cmd : Instr := .lineSet dt tag (.ref p.code minLow maxHigh secLo secHi minLo minHi role)
    let conflict := w.secHi ≤ w.secLo ∨ w.minHi ≤ w.minLo ∨ (b ≠ 0 ∧ (b ≤ w.secHi ∨ b ≤ w.minHi))
    (role ≠ 0 → ∃ t, exec cmd s = .next t ∧ s.OnlyWorld (s.time.elapsed + dt) t ∧ t.world = s.world.fresh ∧
      t.link = (s.link.replied (refusal 0x04 tag .outOfRange .empty)).carries []) ∧
    (role = 0 → conflict → ∃ t, exec cmd s = .next t ∧ s.OnlyWorld (s.time.elapsed + dt) t ∧ t.world = s.world.fresh ∧
      t.link = (s.link.replied (refusal 0x04 tag .conflict .empty)).carries []) ∧
    (role = 0 → ¬ conflict →
      ∃ t adjusted, exec cmd s = .next t ∧ t.time = s.time.runTo (s.time.elapsed + dt) ∧ t.refWindows = w ∧
        t.dials = s.dials ∧ t.pending = s.pending ∧ t.world = s.world.fresh ∧ (∀ j, j ≠ refLine → t.lines[j] = s.lines[j]) ∧
        (m.polarity = p ∧ m.minLow = c ∧ m.maxHigh = b → t.lines[refLine] = m) ∧
        (¬ (m.polarity = p ∧ m.minLow = c ∧ m.maxHigh = b) →
          t.lines[refLine] = { m with
            polarity := p, minLow := c, maxHigh := b, state := .rearm, rise := none, riseTime := none, gap := none
            quietFrom := t.lines[refLine].quietFrom } ∧
          (m.pin = (p == .activeHigh) → t.lines[refLine].quietFrom = none)) ∧
        t.link = (s.link.replied (okReply 0x04 tag adjusted .empty)).carries [] ∧
        (adjusted = true ↔ b ≠ maxHigh ∨ c ≠ minLow ∨ w.secLo ≠ secLo ∨ w.secHi ≠ secHi ∨ w.minLo ≠ minLo ∨ w.minHi ≠ minHi))) ∧
  (∀ (s : State) (dt tag set : Nat), s.link.idle →
    (set = 0 ∨ 8192 ≤ set → ∃ t, exec (.lineClear dt tag set) s = .next t ∧ s.OnlyWorld (s.time.elapsed + dt) t ∧
      t.world = s.world.fresh ∧ t.link = (s.link.replied (refusal 0x05 tag .outOfRange .empty)).carries []) ∧
    (set ≠ 0 → set < 8192 →
      ∃ t, exec (.lineClear dt tag set) s = .next t ∧ t.time = s.time.runTo (s.time.elapsed + dt) ∧
        t.refWindows = s.refWindows ∧ t.dials = s.dials ∧ t.pending = s.pending ∧ t.world = s.world.fresh ∧
        (∀ i : LineNo, t.lines[i] =
          if set.testBit i.val then { s.lines[i] with highShort := false, highLong := false, stuck := false }
          else s.lines[i]) ∧
        t.link = (s.link.replied (okReply 0x05 tag false .empty)).carries []))

/-- LINE_RISING_EDGE and LINE_FALLING_EDGE (R21, R22, R25, R29): from IDLE a rising edge starts a level (on REF with the station time
read at it); one that bridges a gap before the level qualifies or is stuck only closes the gap; one that bridges a gap at or past
`max_high`, in ACTIVE or, on REF, in PENDING, finds the level stuck: STUCK is latched and SUSPENDED entered at that edge with a
STUCK alarm marked ENTRY. A falling edge opens a gap in PENDING, ACTIVE and SUSPENDED and starts the wait in REARM. An edge at
the level the pin already has changes nothing (the model's choice, notes/assumptions/16.md).

LINE_REARMED and MAX_HIGH_PASSED (R21, R25, R29): after `min_low` of the inactive level REARM ends in IDLE; a level that is active past
`max_high` with no gap open sets the latched STUCK flag and enters SUSPENDED with a STUCK alarm marked ENTRY (R32). -/
def Obligations.EdgesOpenBridgeAndSuspend : Prop :=
  (∀ (s : State) (dt : Nat) (i : LineNo),
    let now := s.time.elapsed + dt
    let m := s.lines[i]
    let active := m.polarity == .activeHigh
    (m.pin ≠ active → (m.state = .idle ∨ m.state = .rearm ∨ m.state = .suspended ∨
        (m.state = .pending ∧ i ≠ refLine ∧ ∀ x, m.rise = some x → now < x + m.minHigh * 1000) ∨
        (((m.state = .pending ∧ i = refLine) ∨ m.state = .active) ∧
          (m.maxHigh = 0 ∨ ∀ x, m.rise = some x → now < x + m.maxHigh * 1000))) →
      ∃ t, exec (.lineRisingEdge dt i) s = .next t ∧ t.time = s.time.runTo now ∧ t.refWindows = s.refWindows ∧
        t.dials = s.dials ∧ t.pending = s.pending ∧ t.world = s.world.fresh ∧ (∀ j, j ≠ i → t.lines[j] = s.lines[j]) ∧
        t.link = s.link.carries [] ∧
        t.lines[i] = (match m.state with
          | .idle => { m with
              pin := active, state := .pending, rise := some now, gap := none
              riseTime := if i = refLine then some (s.time.runTo now).station else none
              lastLow := match m.lastEnd with
                | some x => min 65535 ((now - x) / 1000)
                | none => m.lastLow }
          | .rearm => { m with pin := active, quietFrom := none }
          | _ => { m with pin := active, gap := none })) ∧
    (∀ x, m.pin ≠ active → m.rise = some x → m.maxHigh ≠ 0 → x + m.maxHigh * 1000 ≤ now →
      (m.state = .active ∨ m.state = .pending ∧ i = refLine) →
      ∃ t, exec (.lineRisingEdge dt i) s = .next t ∧ t.time = s.time.runTo now ∧ t.refWindows = s.refWindows ∧
        t.dials = s.dials ∧ t.pending = s.pending ∧ t.world = s.world.fresh ∧ (∀ j, j ≠ i → t.lines[j] = s.lines[j]) ∧
        t.lines[i] = { m with pin := active, state := .suspended, stuck := true, gap := none } ∧
        t.link = s.link.carries [.lineAlarm (i.val + 1) .stuckEntry (now / 1000) m.lastHigh m.lastLow 0]) ∧
    (m.pin = active → ∃ t, exec (.lineRisingEdge dt i) s = .next t ∧ s.OnlyWorld now t ∧ t.world = s.world.fresh ∧
      t.link = s.link.carries []) ∧
    (m.pin ≠ active → ∃ t, exec (.lineFallingEdge dt i) s = .next t ∧ s.OnlyWorld now t ∧ t.world = s.world.fresh ∧
      t.link = s.link.carries []) ∧
    (m.pin = active →
      ∃ t, exec (.lineFallingEdge dt i) s = .next t ∧ t.time = s.time.runTo now ∧ t.refWindows = s.refWindows ∧
        t.dials = s.dials ∧ t.pending = s.pending ∧ t.world = s.world.fresh ∧ (∀ j, j ≠ i → t.lines[j] = s.lines[j]) ∧
        t.link = s.link.carries [] ∧
        t.lines[i] = (match m.state with
          | .rearm => { m with pin := !active, quietFrom := some now }
          | .idle => { m with pin := !active }
          | _ => { m with pin := !active, gap := some now }))) ∧
  (∀ (s : State) (i : LineNo),
    let m := s.lines[i]
    (∀ x, m.state = .rearm → m.quietFrom = some x →
      ∃ t, exec (.lineRearmed i) s = .next t ∧ t.time = s.time.runTo (x + m.minLow * 1000) ∧ t.refWindows = s.refWindows ∧
        t.dials = s.dials ∧ t.pending = s.pending ∧ t.world = s.world.fresh ∧ (∀ j, j ≠ i → t.lines[j] = s.lines[j]) ∧
        t.link = s.link.carries [] ∧ t.lines[i] = { m with state := .idle, lastEnd := some x, quietFrom := none }) ∧
    ∀ x, m.rise = some x → m.gap = none → m.maxHigh ≠ 0 →
      (m.state = .active ∧ i ≠ refLine ∨ m.state = .pending ∧ i = refLine) →
      ∃ t, exec (.maxHighPassed i) s = .next t ∧ t.time = s.time.runTo (x + m.maxHigh * 1000) ∧
        t.refWindows = s.refWindows ∧ t.dials = s.dials ∧ t.pending = s.pending ∧ t.world = s.world.fresh ∧
        (∀ j, j ≠ i → t.lines[j] = s.lines[j]) ∧ t.lines[i] = { m with state := .suspended, stuck := true } ∧
        t.link = s.link.carries
          [.lineAlarm (i.val + 1) .stuckEntry (max s.time.elapsed (x + m.maxHigh * 1000) / 1000) m.lastHigh m.lastLow 0])

/-- GAP_CONFIRMED (R22, R24, R26, R27, R29, R32): the level ended at the gap mark and the monitor is IDLE with the durations recorded. In
ACTIVE nothing more happens; in SUSPENDED the STUCK flag stays and an EXIT alarm is given. In PENDING an event line's level was a
glitch: HIGH_SHORT is latched and no edge is delivered, whatever H is (R23 and R24 speak of an H below `min_high`; that a gap confirmed
in PENDING is a glitch at or above it too is the model's choice, notes/assumptions/16.md); a REF level below the window in force is a glitch too, and one above it
latches HIGH_LONG. A glitch alarm comes at most once a minute and carries the glitches suppressed since the last. -/
def Obligations.AConfirmedGapEndsTheLevel : Prop :=
  ∀ (s : State) (i : LineNo) (gap rise : Nat), s.lines[i].gap = some gap → s.lines[i].rise = some rise →
    let m := s.lines[i]
    let expiry := gap + m.minLow * 1000
    let now := max s.time.elapsed expiry
    let high := (gap - rise) / 1000
    let window := if s.time.mode = .minute then (s.refWindows.minLo, s.refWindows.minHi)
      else (s.refWindows.secLo, s.refWindows.secHi)
    let ended := { m with
      state := .idle, rise := none, riseTime := none, gap := none, lastEnd := some gap, lastHigh := min 65535 high }
    let frame (t : State) := t.time = s.time.runTo expiry ∧ t.refWindows = s.refWindows ∧ t.dials = s.dials ∧
      t.pending = s.pending ∧ t.world = s.world.fresh ∧ ∀ j, j ≠ i → t.lines[j] = s.lines[j]
    let glitched (flagged : Monitor) (kind : AlarmKind) : Prop :=
      ((∀ x, m.lastGlitch = some x → x + 60000000 ≤ now) →
        ∃ t, exec (.gapConfirmed i) s = .next t ∧ frame t ∧
          t.lines[i] = { flagged with glitches := 0, lastGlitch := some now } ∧
          t.link = s.link.carries [.lineAlarm (i.val + 1) kind (now / 1000) ended.lastHigh ended.lastLow m.glitches]) ∧
      ∀ x, m.lastGlitch = some x → now < x + 60000000 →
        ∃ t, exec (.gapConfirmed i) s = .next t ∧ frame t ∧
          t.lines[i] = { flagged with glitches := min 65535 (m.glitches + 1) } ∧ t.link = s.link.carries []
    (m.state = .active → ∃ t, exec (.gapConfirmed i) s = .next t ∧ frame t ∧ t.lines[i] = ended ∧
      t.link = s.link.carries []) ∧
    (m.state = .suspended → ∃ t, exec (.gapConfirmed i) s = .next t ∧ frame t ∧ t.lines[i] = ended ∧
      t.link = s.link.carries [.lineAlarm (i.val + 1) .stuckExit (now / 1000) ended.lastHigh ended.lastLow 0]) ∧
    (m.state = .pending → i ≠ refLine → glitched { ended with highShort := true } .highShort) ∧
    (m.state = .pending → i = refLine → high < window.1 → glitched { ended with highShort := true } .highShort) ∧
    (m.state = .pending → i = refLine → window.1 ≤ high → window.2 < high → glitched { ended with highLong := true } .highLong)

/-- QUALIFICATION_TIME and a bridging LINE_RISING_EDGE (R23, R25, R28, R68): an event line in PENDING with no gap open becomes ACTIVE at
t_q, the rise mark plus `min_high`; with a gap open at t_q the decision waits on the gap, and the edge that bridges it qualifies the
level with the same t_q. A line of role DISPATCH departs the first record in table order at its platform in BOARDING or CLOSING, which
stays, DEPARTED with the present time as its mark, unless its evaluation retires it, and so does every other record; where there is
none, no record departs and DISPATCH_UNMATCHED is reported with t_q. A level that is past `max_high` as it
qualifies gives its edge first and is then SUSPENDED, STUCK, with a STUCK alarm marked ENTRY.

The same edge triggers the host cues bound to the line that are ARMED and wait for a trigger (R141), and an APPROACH(q) line the automatic
APPROACH cue of the first record in table order at q in BOARDING or CLOSING whose cue waits so (R151): the cue is DELAYING to t_q plus
its delay, or enters PENDING_WALL at once where that is past, and is QUEUED where wall_seq is not earlier than its mark (R142). No other cue
changes where no record departs; where one does, these clauses say the bound cues alone. They are for a sound cue table, an arbiter that
cannot start a cue and, for a departure, a departed hold in its range (R59). The model's choices: t_q is in microseconds
(notes/assumptions/36.md), the departure comes before the cues (notes/assumptions/38.md), and an entry to PENDING_WALL through DELAYING
computes the zones again and leaves `queued_at` absent (notes/assumptions/20.md). -/
def Obligations.AQualifiedEdgeDepartsAService : Prop :=
  ∀ (s : State) (i : LineNo) (rise : Nat), i ≠ refLine → s.lines[i].state = .pending → s.lines[i].rise = some rise →
    let m := s.lines[i]
    let w := s.world
    let stamp := rise + m.minHigh * 1000
    let bound (c : Cue) : Prop := c.origin = .host ∧ c.line = some (i.val + 1) ∧ c.state = .armed ∧
      c.mode.isTriggered = true ∧ c.timer = none
    let comes (c : Cue) : Bool := c.origin == .auto && c.kind == .approach && c.state == .armed && c.mode.isTriggered &&
      c.timer == none
    let train : Option Service := match m.role with
      | .approach q => w.services.find? fun r => r.platform == q && (r.state == .boarding || r.state == .closing) &&
          w.cues.any fun c => comes c && c.subject == r.code
      | _ => none
    let leaver : Option Service := match m.role with
      | .dispatch p => w.services.find? fun r => r.platform == p && (r.state == .boarding || r.state == .closing)
      | _ => none
    let called (c : Cue) : Prop := bound c ∨ comes c = true ∧ train.map (·.code) = some c.subject
    let expiry (c : Cue) : Nat := stamp + c.delayS.getD 0 * 1000000
    let mark (c : Cue) : Seq := match c.kind with
      | .custom => w.tableSeq
      | _ => (w.subjectRev c).getD c.seq
    let zones (c : Cue) : Zones := w.autoZones c.kind c.subject c.oldPlatform
    let triggered (now : Nat) (c : Cue) : Cue :=
      if now < expiry c then { c with state := .delaying, timer := some (expiry c) }
      else
        let d := { c with
          zones := if c.origin = .auto ∧ zones c ≠ 0 then zones c else c.zones
          state := .pendingWall, timer := none, queuedAt := none, seq := mark c }
        if notEarlier w.commit.wallSeq (mark c) = true then { d with state := .queued, queuedAt := some now, aged := 0 } else d
    let quiet : Prop := w.CuesSound ∧ (w.au.available = false ∨ ∀ j : Fin 4, w.au.channels[j].phase ≠ .free)
    let departs (cmd : Instr) (target : Nat) (line : Monitor) (last : List Report) : Prop :=
      let now := max s.time.elapsed target
      ∃ t rs, exec cmd s = .next t ∧ t.time = s.time.runTo target ∧ t.refWindows = s.refWindows ∧
        t.dials = s.dials ∧ t.pending = s.pending ∧ (∀ j, j ≠ i → t.lines[j] = s.lines[j]) ∧
        t.lines[i] = line ∧ s.world.Background t.world ∧ t.link = s.link.carries (rs ++ last) ∧
        (∀ p, m.role = .dispatch p →
          (∀ r, s.world.services.find? (fun r => r.platform == p && (r.state == .boarding || r.state == .closing)) = some r →
            ∀ r' ∈ t.world.services, (r'.code = r.code → r'.state = .departed ∧ r'.hostPart = r.hostPart) ∧
              (r'.code ≠ r.code → ∃ r₀ ∈ s.world.services, r'.hostPart = r₀.hostPart)) ∧
          (∀ r, s.world.services.find? (fun r => r.platform == p && (r.state == .boarding || r.state == .closing)) = some r →
            (s.world.services.map (·.code)).Nodup →
            let gone : Service := { r with
              state := .departed, departedMs := if s.time.validity = .setTime then some (t.time.station / 1000) else none }
            ((gone.evaluate s.world.policy t.env).2 = none → ∃ r' ∈ t.world.services, r'.code = r.code) ∧
            ∀ y ∈ s.world.services, y.code ≠ r.code → (y.evaluate s.world.policy t.env).2 = none →
              ∃ r' ∈ t.world.services, r'.hostPart = y.hostPart) ∧
          (s.world.services.find? (fun r => r.platform == p && (r.state == .boarding || r.state == .closing)) = none →
            s.world.Lives t.env t.world ∧
            Report.dispatchUnmatched p (i.val + 1) (stamp / 1000) (if s.time.validity = .setTime then t.time.station / 1000 else 0)
              ∈ rs)) ∧
        ((∀ p, m.role ≠ .dispatch p) → s.world.Lives t.env t.world) ∧
        (quiet → leaver = none →
          t.world = { w.fresh with cues := w.cues.map fun c => if called c then triggered now c else c }) ∧
        (quiet → 30 ≤ w.policy.departedHold → ∀ c ∈ w.cues, bound c →
          (now < expiry c → { c with state := .delaying, timer := some (expiry c) } ∈ t.world.cues) ∧
          (expiry c ≤ now → ∃ d ∈ t.world.cues, d.slot = c.slot ∧ d.handle = c.handle ∧ d.timer = none ∧
            (d.state = .pendingWall ∨ d.state = .queued)))
    let outcome (cmd : Instr) (target : Nat) (line : Monitor) : Prop :=
      let now := max s.time.elapsed target
      (m.maxHigh = 0 ∨ now < rise + m.maxHigh * 1000 → departs cmd target { line with state := .active } []) ∧
      (m.maxHigh ≠ 0 → rise + m.maxHigh * 1000 ≤ now →
        departs cmd target { line with state := .suspended, stuck := true }
          [.lineAlarm (i.val + 1) .stuckEntry (now / 1000) m.lastHigh m.lastLow 0])
    (m.gap = none → outcome (.qualificationTime i) stamp m) ∧
    ∀ dt, m.pin ≠ (m.polarity == .activeHigh) → stamp ≤ s.time.elapsed + dt →
      outcome (.lineRisingEdge dt i) (s.time.elapsed + dt) { m with pin := (m.polarity == .activeHigh), gap := none }

/-- A reference pulse (R13, R14, R15, R17, R18, R20, R29): a REF level whose confirmed gap gives a duration inside the window in force is
good where it comes in LOCKED not less than half a period after the last counted one, or in ACQUIRING half a period to one and
a half after it, which locks the reference. SET and not stale, a phase error of at most a second trims F by e / (16 P_s), halves
away from zero and clamped into -200..+200, and sets S to minus the error; the watch restarts from the rising edge. That a step of T
within the rising edge's own microsecond does not make the pulse stale is the model's choice (notes/assumptions/36.md), and so is that
a nominal second which begins at the very moment of the acceptance has begun with the old F and S (notes/assumptions/63.md). -/
def Obligations.AReferencePulseTrimsTheClock : Prop :=
  ∀ (s : State) (gap rise capture last : Nat), s.lines[refLine].state = .pending → s.lines[refLine].gap = some gap →
    s.lines[refLine].rise = some rise → s.lines[refLine].riseTime = some capture → s.time.validity = .setTime →
    s.time.mode ≠ .none → (∀ m, s.time.stepMark = some m → m ≤ rise) → s.time.lastPulse = some last →
    let m := s.lines[refLine]
    let period : Nat := if s.time.mode = .minute then 60000000 else 1000000
    let seconds : Nat := if s.time.mode = .minute then 60 else 1
    let window := if s.time.mode = .minute then (s.refWindows.minLo, s.refWindows.minHi)
      else (s.refWindows.secLo, s.refWindows.secHi)
    let e : Int := if 2 * (capture % period) < period then ((capture % period : Nat) : Int)
      else ((capture % period : Nat) : Int) - period
    window.1 ≤ (gap - rise) / 1000 → (gap - rise) / 1000 ≤ window.2 → period ≤ 2 * (rise - last) →
    (s.time.refState = .locked ∨ s.time.refState = .acquiring ∧ 2 * (rise - last) ≤ 3 * period) → e.natAbs ≤ 1000000 →
    ∃ t, ∃ change : Int, exec (.gapConfirmed refLine) s = .next t ∧ t.refWindows = s.refWindows ∧ t.dials = s.dials ∧
      t.pending = s.pending ∧ t.world = s.world.fresh ∧
      t.link = s.link.carries
        (if s.time.refState = .locked then [] else [.referenceState .acquiring .locked s.time.mode s.time.trim]) ∧
      (∀ j, j ≠ refLine → t.lines[j] = s.lines[j]) ∧
      t.lines[refLine] = { m with
        state := .idle, rise := none, riseTime := none, gap := none, lastEnd := some gap
        lastHigh := min 65535 ((gap - rise) / 1000) } ∧
      2 * (16 * seconds * change - e).natAbs ≤ 16 * seconds ∧
      (2 * (16 * seconds * change - e).natAbs = 16 * seconds → e.natAbs ≤ (16 * seconds * change).natAbs) ∧
      t.time = { s.time.runTo (gap + m.minLow * 1000) with
        refState := .locked
        lastPulse := some rise
        watch := some (rise + 3 * period / 2)
        lastError := some e
        pendingStep := none
        trim := max (-200) (min 200 (s.time.trim - change))
        trimLimit := decide (s.time.trim - change < -200 ∨ 200 < s.time.trim - change)
        slew := -e }

/-- An accepted reference pulse that does not trim the clock (R13 to R16, R19, R20): in FREE it is nothing; in HOLDOVER it is counted
and the reference becomes ACQUIRING; in ACQUIRING the first one, or one outside half a period to one and a half, is only
counted; in LOCKED one that comes less than half a period after the last is nothing. A good one while UNSET, or after a step of T
since its rising edge (stale), is counted and disciplines nothing; a step within the rising edge's own microsecond does not make it
stale (the model's choice, notes/assumptions/36.md). A nominal second that begins at the very moment of the acceptance has begun with
the old S (the model's choice, notes/assumptions/63.md).

A phase error above a second is a candidate for a step: the first is kept, one that lies more than a tenth of a second from the
candidate takes its place, and one that lies no farther confirms it: T moves by minus the error, S becomes 0, roll held
follows R7, every slave clock line is evaluated (R174) and TIME_STEPPED is reported. -/
def Obligations.AReferencePulseIsJudged : Prop :=
  ∀ (s : State) (gap rise capture : Nat), s.lines[refLine].state = .pending → s.lines[refLine].gap = some gap →
    s.lines[refLine].rise = some rise → s.lines[refLine].riseTime = some capture →
    let m := s.lines[refLine]
    let period : Nat := if s.time.mode = .minute then 60000000 else 1000000
    let window := if s.time.mode = .minute then (s.refWindows.minLo, s.refWindows.minHi)
      else (s.refWindows.secLo, s.refWindows.secHi)
    let e : Int := if 2 * (capture % period) < period then ((capture % period : Nat) : Int)
      else ((capture % period : Nat) : Int) - period
    let now := s.time.runTo (gap + m.minLow * 1000)
    let frame (t : State) : Prop := t.refWindows = s.refWindows ∧ t.pending = s.pending ∧
      (∀ j, j ≠ refLine → t.lines[j] = s.lines[j]) ∧
      t.lines[refLine] = { m with
        state := .idle, rise := none, riseTime := none, gap := none, lastEnd := some gap
        lastHigh := min 65535 ((gap - rise) / 1000) }
    let leaves (time : TimeBase) (rs : List Report) : Prop :=
      ∃ t, exec (.gapConfirmed refLine) s = .next t ∧ frame t ∧ t.dials = s.dials ∧ t.world = s.world.fresh ∧
        t.link = s.link.carries rs ∧ t.time = time
    let early (last : Nat) : Prop := 2 * (rise - last) < period
    let late (last : Nat) : Prop := 3 * period < 2 * (rise - last)
    let good : Prop := ∃ last, s.time.lastPulse = some last ∧ ¬ early last ∧
      (s.time.refState = .locked ∨ s.time.refState = .acquiring ∧ ¬ late last)
    let counted : TimeBase := { now with
      refState := .locked, lastPulse := some rise, watch := some (rise + 3 * period / 2) }
    let told : List Report :=
      if s.time.refState = .locked then [] else [.referenceState .acquiring .locked s.time.mode s.time.trim]
    let fresh : Prop := s.time.validity = .setTime ∧ ∀ x, s.time.stepMark = some x → x ≤ rise
    window.1 ≤ (gap - rise) / 1000 → (gap - rise) / 1000 ≤ window.2 →
    (s.time.refState = .free → leaves now []) ∧
    (s.time.refState = .holdover →
      leaves { now with refState := .acquiring, lastPulse := some rise }
        [.referenceState .holdover .acquiring s.time.mode s.time.trim]) ∧
    (s.time.refState = .acquiring → (∀ last, s.time.lastPulse = some last → early last ∨ late last) →
      leaves { now with lastPulse := some rise } []) ∧
    (∀ last, s.time.refState = .locked → s.time.lastPulse = some last → early last → leaves now []) ∧
    (good → ¬ fresh → leaves counted told) ∧
    (good → fresh → 1000000 < e.natAbs → (∀ x, s.time.pendingStep = some x → 100000 < (e - x).natAbs) →
      leaves { counted with lastError := some e, pendingStep := some e } told) ∧
    (∀ x, good → fresh → 1000000 < e.natAbs → s.time.pendingStep = some x → (e - x).natAbs ≤ 100000 →
      s.time.dayStart ≤ 1439 →
      ∃ t rs, exec (.gapConfirmed refLine) s = .next t ∧ frame t ∧ s.world.Background t.world ∧
        t.link = s.link.carries (told ++ rs) ∧ Report.timeStepped (-e) (t.time.station / 1000) ∈ rs ∧
        (t.time.station : Int) = (now.station - e) % 86400000000 ∧ RollAfter now (-e) t.time.rollHeld ∧
        (∀ i : Fin 4, t.dials[i] = s.dials[i].evaluate t.env) ∧
        t.time = { counted with
          base := t.time.base, slew := 0, pendingStep := none, lastError := some e, rollHeld := t.time.rollHeld
          stepMark := some now.elapsed })

/-! ## Services, texts and notices -/

/-- SERVICE_PUT of a new code (R36, R37, R40, R41, R35): a request outside its ranges is refused OUT_OF_RANGE, and one that names a
text that is not stored NOT_FOUND. Otherwise the record the host gives, with `sched_sm` reckoned from D and `eff_sm` from the delay,
is refused PAST where it is more than thirty minutes past, and inserted where the table has room; a full table retires its first
DEPARTED record EARLY_FOR_SPACE for it, and refuses TABLE_FULL where it has none. The reply carries the new table_seq and INSERTED,
ADJUSTED where the delay or the lead was clamped. The record stays unless its first evaluation retires it, and so do the others. -/
def Obligations.ServicePutInsertsARecord : Prop :=
  ∀ (s : State) (dt tag : Nat) (r : ServicePutReq), s.link.idle →
    let cmd : Instr := .servicePut dt tag r
    let refusedWith (status : Status) : Prop := ∃ t, exec cmd s = .next t ∧ s.OnlyWorld (s.time.elapsed + dt) t ∧
      t.world = s.world.fresh ∧ t.link = (s.link.replied (refusal 0x06 tag status .empty)).carries []
    (Side.ofCode r.side = none ∨ servicePutBad r = true → refusedWith .outOfRange) ∧
    ∀ side, Side.ofCode r.side = some side → servicePutBad r = false →
      (s.world.textsStored r = false → refusedWith .notFound) ∧
      (s.world.textsStored r = true → s.world.service r.code = none → (s.world.services.map (·.code)).Nodup →
        let e := (s.after dt).env
        let delay : Delay := if r.delay = 65535 then .indefinite else .minutes (min 719 r.delay)
        let sched : Int := ((r.schedHm : Int) - s.time.dayStart) % 1440
        let new : Service :=
          { code := r.code, schedHm := r.schedHm, schedSm := sched, delay := delay
            effSm := sched + (match delay with
              | .minutes n => (n : Int)
              | .indefinite => 0)
            platform := r.platform, side := side, prev := none, changeMs := none, dest := r.dest, vias := r.vias
            remark := if r.remark = 0 then none else some r.remark
            operator := r.operator, boardLead := min 60 r.boardLead, state := .planned, overdue := false, attention := false
            departedMs := none, announced := none, changeCue := none, rev := 0 }
        let inserted (goes : Service → Prop) (rs : List Report) (t : State) : Prop :=
          s.OnlyWorld (s.time.elapsed + dt) t ∧ s.world.Background t.world ∧ (t.world.services.map (·.code)).Nodup ∧
            (∀ x ∈ t.world.services, (x.code = r.code → x.hostPart = new.hostPart) ∧
              (x.code ≠ r.code → ∃ y ∈ s.world.services, ¬ goes y ∧ x.hostPart = y.hostPart)) ∧
            ((new.evaluate s.world.policy e).2 = none → ∃ x ∈ t.world.services, x.code = r.code) ∧
            (∀ y ∈ s.world.services, ¬ goes y → (y.evaluate s.world.policy e).2 = none →
              ∃ x ∈ t.world.services, x.hostPart = y.hostPart) ∧
            t.link = (s.link.replied (okReply 0x06 tag
              (decide (719 < r.delay ∧ r.delay ≠ 65535) || decide (60 < r.boardLead))
              (.servicePut (s.world.tableSeq + 1) true))).carries rs
        let past := e.valid = true ∧ e.timeTo new.effSm < -1800000
        (past → refusedWith .past) ∧
        (¬ past → s.world.services.length < 128 →
          ∃ t rs, exec cmd s = .next t ∧ inserted (fun _ => False) rs t) ∧
        (¬ past → 128 ≤ s.world.services.length → (∀ y ∈ s.world.services, y.state ≠ .departed) → refusedWith .tableFull) ∧
        (∀ g, ¬ past → 128 ≤ s.world.services.length → s.world.services.find? (·.state == .departed) = some g →
          ∃ t rs, exec cmd s = .next t ∧ inserted (fun y => y.code = g.code) rs t ∧
            Report.serviceRetired g.code .earlyForSpace .departed (s.world.tableSeq + 1) e.reportMs ∈ rs))

/-- SERVICE_PUT of a code in the table and SERVICE_AMEND (R36, R37, R42 to R48): where no check refuses it, the record keeps its code and
takes what the host gives, a carried record staying carried; every change from one platform to another keeps the old platform and
side in `prev_platform` and `prev_side` (R46). A part that an amendment does not carry is as it was, and a state part makes the record
DEPARTED, CANCELLED or PLANNED before the evaluation. The record stays unless its evaluation retires it, and so do the others. The
reply carries the new table_seq where a displayed field changed (R38), and the record's revision as it was where none did.
The refusals: a DEPARTED record WRONG_STATE; a carried record's `eff_sm` below 0 OUT_OF_RANGE; of an amendment, first a part out of range
OUT_OF_RANGE and a code or remark not stored NOT_FOUND, at last a target that the state does not admit WRONG_STATE (R43, R44, R48).
That the evaluation does not clear the `attention` which the same cause set, and that an amendment which leaves the record
as it is prompts no evaluation, is the model's reading (notes/assumptions/33.md, notes/assumptions/18.md).

A cause that changes a record calls for its automatic cues in the order CANCELLATION, PLATFORM_CHANGE, DELAY, BOARDING, APPROACH, each on its
conditions (R149 to R152), and then judges the record's anchors (R141). Making one (R146 to R148): empty zones are DROPPED; a cue of the
kind and subject is SUPERSEDED and its slot taken; else the lowest free slot is taken, or that of the cue EVICTED from a full table, or
TABLE_FULL is DROPPED. A PUT or AMEND of a shown change leaves the cues so, with no other work in the step, every row of a DEPARTURES or
PLATFORM window composed (R94, R95), and from QUIET a wanted commit in SETTLING (R101, R102). The model's choices: notes/assumptions/8.md (R150), notes/assumptions/20.md and notes/assumptions/48.md (R152), notes/assumptions/37.md. -/
def Obligations.PutAndAmendChangeARecord : Prop :=
  (∀ (w : World) (d : SvcChange) (e : Env),
    let r := d.after
    let p := w.cuePolicy
    let was : SvcState := match d.before with
      | some b => b.state
      | none => .planned
    let delayWas : Delay := match d.before with
      | some b => b.delay
      | none => .minutes 0
    let platformWas : Nat := match d.before with
      | some b => b.platform
      | none => 0
    let live : Prop := r.state ≠ .departed ∧ r.state ≠ .cancelled
    let near : Prop := r.state = .boarding ∨ r.state = .closing
    let announceable (x : Delay) : Prop := ∀ n < p.delayThreshold, x ≠ .minutes n
    let make (k : KindPolicy) (c : Cue) (w : World) : World := if k.enable = true then w.makeCue c e else w
    let w0 : World := { w with cues := w.cues.map fun c =>
      if c.state = .pendingWall ∧ c.kind.ofService = true ∧ c.subject = r.code then { c with seq := r.rev } else c }
    let playing := w0.cues.filter fun c => decide (c.kind.ofService = true ∧ c.kind ≠ .cancellation ∧ c.subject = r.code ∧
      (c.state = .starting ∨ c.state = .playing))
    let w1 : World := if r.state = .cancelled ∧ was ≠ .departed ∧ was ≠ .cancelled then
        make p.cancellation (Cue.draft .auto .cancellation r.code .oneShot p.cancellation.priority)
          (playing.foldl (fun w c => w.leave .withdrawnSubjectCancelled c e) w0)
      else w0
    let w2 : World := if platformWas ≠ 0 ∧ r.platform ≠ 0 ∧ platformWas ≠ r.platform ∧ live ∧
          (near ∨ e.valid = true ∧ e.timeTo r.effSm ≤ 1200000) then
        make p.platformChange
          { Cue.draft .auto .platformChange r.code .oneShot (if near then 0 else p.platformChange.priority) with
            oldPlatform := r.prev.map (·.1) } w1
      else w1
    let differs : Bool := match r.delay, r.announced with
      | .minutes n, some (.minutes a) => decide (a + p.delayStep ≤ n ∨ n + p.delayStep ≤ a)
      | .minutes n, some .indefinite => Config.indefiniteDiffers n p.delayStep
      | _, _ => false
    let w3 : World := if r.delay ≠ delayWas ∧ live ∧ announceable r.delay ∧
          (¬ announceable delayWas ∨ delayWas = .indefinite ∨ r.delay = .indefinite ∨ differs = true ∨
            (r.announced = none ∧ ∀ c ∈ w2.cues, ¬ (c.kind = .delay ∧ c.subject = r.code))) then
        make p.delay
          { Cue.draft .auto .delay r.code .periodic p.delay.priority with
            periodS := some (p.delayPeriod * 60), repeatsLeft := some p.delayRepeats } w2
      else w2
    let approach : Cue :=
      if r.platform ∈ e.approach then
        { Cue.draft .auto .approach r.code .triggered p.approach.priority with delayS := some p.approachDelay }
      else { Cue.draft .auto .approach r.code .anchored p.approach.priority with leadMin := some p.approachLead }
    let w4 : World := if was = .planned ∧ r.state = .boarding then
        make p.approach approach (make p.boarding (Cue.draft .auto .boarding r.code .oneShot p.boarding.priority) w3)
      else w3
    w.serviceCues d e = w4.judgeAnchors (fun c => c.kind.ofService && c.subject == r.code) e) ∧
  (∀ (w : World) (c : Cue) (e : Env), c.origin = .auto → c.kind.ofService = true → w.CuesSound →
    let record := w.service c.subject
    let map (p : Nat) : Zones := if p = 0 then 0 else w.zoneMap.getD (p - 1) 0
    let platform : Nat := match record with
      | some r => r.platform
      | none => 0
    let zones : Zones := match c.kind with
      | .platformChange => map (c.oldPlatform.getD 0) ||| map platform ||| w.concourse
      | .approach => map platform
      | _ => map platform ||| w.concourse
    let told (event : CueEvent) (x : Cue) : Report := .cueState x.handle event x.origin x.kind x.subject (e.now / 1000)
    let dropped (event : CueEvent) : Prop :=
      w.makeCue c e = { w with out := w.out ++ [.cueState 0 event .auto c.kind c.subject (e.now / 1000)] }
    let mark : Seq := match record with
      | some r => r.rev
      | none => c.seq
    let due : Prop := c.mode = .oneShot ∨ c.mode = .periodic ∨ c.mode = .anchored ∧ e.valid = true ∧
      ∃ r, record = some r ∧ r.effSm * 60000 - e.nms ≤ c.leadMin.getD 0 * 60000
    let seated (slot : Nat) (left : List Cue) (reports : List Report) (au : AnnLink) : Prop :=
      let h := ({ w with cues := left } : World).handleToGive
      let cue : Cue := { c with handle := h, slot := slot, zones := zones }
      let waiting : Cue := { cue with state := .pendingWall, timer := none, queuedAt := none, seq := mark }
      w.makeCue c e = { w with
        cues := insertCue (if ¬ due then cue
          else if notEarlier w.commit.wallSeq mark = true then
            { waiting with state := .queued, queuedAt := some e.now, aged := 0 }
          else waiting) left
        nextHandle := if h < 65535 then h + 1 else 1
        out := w.out ++ reports
        au := au
        services := w.services.map fun r =>
          if c.kind = .platformChange ∧ r.code = c.subject then { r with changeCue := some { handle := h, heard := false } }
          else r
        agenda := (w.makeCue c e).agenda }
    let same (x : Cue) : Prop := x.kind = c.kind ∧ x.subject = c.subject
    let worst (x : Cue) : Prop := x.state.isPending = true ∧ ∀ y ∈ w.cues, y.state.isPending = true → y.priority ≤ x.priority
    let goesFirst (x y : Cue) : Prop := match x.queuedAt, y.queuedAt with
      | none, some _ => True
      | some _, none => False
      | none, none => y.slot ≤ x.slot
      | some a, some b => b < a ∨ b = a ∧ y.slot ≤ x.slot
    (zones = 0 → dropped .droppedNoZones) ∧
    (zones ≠ 0 → ∀ x ∈ w.cues, same x →
      seated x.slot (w.cues.filter (·.slot != x.slot)) [told .superseded x]
        (if x.state.isPending = true then w.au else (w.stopPlay x.handle e).au)) ∧
    (zones ≠ 0 → (∀ x ∈ w.cues, ¬ same x) →
      (∀ k : Fin 32, (∀ x ∈ w.cues, x.slot ≠ k.val) → (∀ j : Fin 32, j < k → ∃ x ∈ w.cues, x.slot = j.val) →
        seated k.val w.cues [] w.au) ∧
      ((∀ k : Fin 32, ∃ x ∈ w.cues, x.slot = k.val) →
        (∀ x ∈ w.cues, worst x → c.priority < x.priority → (∀ y ∈ w.cues, worst y → goesFirst x y) →
          seated x.slot (w.cues.filter (·.slot != x.slot)) [told .evicted x] w.au) ∧
        ((∀ x ∈ w.cues, x.state.isPending = true → x.priority ≤ c.priority) → dropped .droppedTableFull)))) ∧
  (∀ (s : State) (dt tag : Nat), s.link.idle → (s.world.services.map (·.code)).Nodup →
    let e := (s.after dt).env
    let stays (code : Nat) (new : Service) (t : State) : Prop :=
      ((new.evaluate s.world.policy e).2 = none → ∃ x ∈ t.world.services, x.code = code) ∧
        ∀ y ∈ s.world.services, y.code ≠ code → (y.evaluate s.world.policy e).2 = none →
          ∃ x ∈ t.world.services, x.hostPart = y.hostPart
    let calm : Prop := s.world.CuesSound ∧ s.world.cues.length ≤ 27 ∧
      (∀ c ∈ s.world.cues, ¬ (c.origin = .auto ∧ c.kind = .platformChange)) ∧
      (s.world.au.available = false ∨ ∀ i : Fin 4, s.world.au.channels[i].phase ≠ .free) ∧
      (s.world.commit.batchOpen = true ∨ s.world.commit.settings.settle ≠ 0) ∧
      ∀ n, (s.world.view n).targets.length = s.world.rowTotal n
    let cued (old new : Service) (t : State) (rs : List Report) : Prop :=
      let after := (new.evaluate s.world.policy e).1
      let kept : Service := { after with
        attention :=
          if old.platform = 0 ∨ new.platform = 0 ∨ old.platform = new.platform then after.attention else new.attention
        rev := s.world.tableSeq + 1 }
      let w := (({ s.world.fresh with tableSeq := s.world.tableSeq + 1 } : World).storeService kept).serviceCues
        { before := some old, after := kept, retired := none } e
      calm → (new.evaluate s.world.policy e).2 = none →
        t.world.cues = w.cues ∧ t.world.nextHandle = w.nextHandle ∧ w.out <:+: rs ∧
          s.world.Recomposed Source.showsServices e t.world ∧ s.world.SettlesFrom e.now t.world
    let prevAfter (old : Service) (platform : Nat) : Option (Nat × Side) :=
      if old.platform = 0 ∨ platform = 0 ∨ old.platform = platform then old.prev else some (old.platform, old.side)
    let shows (old new : Service) : Prop :=
      let after := (new.evaluate s.world.policy e).1
      ¬ (old.schedHm = new.schedHm ∧ old.delay = new.delay ∧ old.platform = new.platform ∧ old.side = new.side ∧
        old.prev = new.prev ∧ old.dest = new.dest ∧ old.vias = new.vias ∧ old.remark = new.remark ∧
        old.operator = new.operator ∧ old.state = after.state ∧ old.overdue = after.overdue ∧
        old.attention =
          if old.platform = 0 ∨ new.platform = 0 ∨ old.platform = new.platform then after.attention else new.attention)
    (∀ (r : ServicePutReq) (side : Side) (old : Service), Side.ofCode r.side = some side → servicePutBad r = false →
      s.world.textsStored r = true → s.world.service r.code = some old → old.state ≠ .departed →
      let new := replacedService r side e old
      ¬ (old.schedSm < 0 ∧ new.effSm < 0) →
      ∃ t rs rev, exec (.servicePut dt tag r) s = .next t ∧ s.OnlyWorld (s.time.elapsed + dt) t ∧
        s.world.Background t.world ∧ (shows old new → rev = s.world.tableSeq + 1) ∧ (¬ shows old new → rev = old.rev) ∧
        (∀ x ∈ t.world.services, (x.code = r.code → x.hostPart = new.hostPart) ∧
          (x.code ≠ r.code → ∃ y ∈ s.world.services, x.hostPart = y.hostPart)) ∧
        stays r.code new t ∧ (shows old new → cued old new t rs) ∧
        (new.code = r.code ∧ new.schedHm = r.schedHm ∧ new.dest = r.dest ∧ new.vias = r.vias ∧ new.operator = r.operator ∧
          new.remark = (if r.remark = 0 then none else some r.remark) ∧ new.boardLead = min 60 r.boardLead ∧
          new.delay = (if r.delay = 65535 then .indefinite else .minutes (min 719 r.delay)) ∧
          new.effSm = new.schedSm + (if r.delay = 65535 then 0 else min 719 (r.delay : Int)) ∧
          new.platform = r.platform ∧ new.side = (if r.platform = 0 then .none else side) ∧
          new.schedSm = (((r.schedHm : Int) - s.time.dayStart) % 1440) - (if old.schedSm < 0 then 1440 else 0) ∧
          new.prev = prevAfter old r.platform) ∧
        t.link = (s.link.replied (okReply 0x06 tag
          (decide (719 < r.delay ∧ r.delay ≠ 65535) || decide (60 < r.boardLead)) (.servicePut rev false))).carries rs) ∧
    (∀ (r : AmendReq) (old : Service), amendBad r = false → s.world.service r.code = some old →
      s.world.remarkStored (r.remark.getD 0) = true → old.state ≠ .departed → amendDelayBad r old = false →
      amendTargetBad r old = false →
      let new := amended r e old
      ∃ t rs rev, exec (.serviceAmend dt tag r) s = .next t ∧ s.OnlyWorld (s.time.elapsed + dt) t ∧
        s.world.Background t.world ∧ (new ≠ old ∧ shows old new → rev = s.world.tableSeq + 1) ∧
        (¬ (new ≠ old ∧ shows old new) → rev = old.rev) ∧
        (∀ x ∈ t.world.services, (x.code = r.code → x.hostPart = new.hostPart ∧
            (r.target = none → x.state.terminal = old.state.terminal) ∧
            (r.target = some 0 → x.state = .departed) ∧ (r.target = some 1 → x.state = .cancelled) ∧
            (r.target = some 2 → x.state ≠ .cancelled ∧ x.state ≠ .departed)) ∧
          (x.code ≠ r.code → ∃ y ∈ s.world.services, x.hostPart = y.hostPart)) ∧
        stays r.code new t ∧ (new ≠ old → shows old new → cued old new t rs) ∧
        (new.code = r.code ∧ new.schedHm = old.schedHm ∧ new.schedSm = old.schedSm ∧ new.dest = old.dest ∧
          new.vias = old.vias ∧ new.operator = old.operator ∧ new.boardLead = old.boardLead) ∧
        (r.delay = none → new.delay = old.delay ∧ new.effSm = old.effSm) ∧
        (∀ n, r.delay = some n → n ≠ 65535 → new.delay = .minutes (min 719 n) ∧ new.effSm = new.schedSm + min 719 (n : Int)) ∧
        (r.delay = some 65535 → new.delay = .indefinite ∧ new.effSm = new.schedSm) ∧
        (r.platform = none → new.platform = old.platform ∧ new.side = old.side ∧ new.prev = old.prev) ∧
        (∀ p side, r.platform = some (p, side) → new.platform = p ∧ new.prev = prevAfter old p ∧
          Side.ofCode side = some new.side) ∧
        (r.remark = none → new.remark = old.remark) ∧
        (∀ i, r.remark = some i → new.remark = if i = 0 then none else some i) ∧
        t.link = (s.link.replied (okReply 0x07 tag
          (match r.delay with
            | some n => decide (719 < n ∧ n ≠ 65535)
            | none => false) (.rev rev))).carries rs)) ∧
  ∀ (s : State) (dt tag : Nat), s.link.idle →
    let refusedWith (cmd : Instr) (kind : Nat) (status : Status) : Prop := ∃ t, exec cmd s = .next t ∧
      s.OnlyWorld (s.time.elapsed + dt) t ∧ t.world = s.world.fresh ∧
      t.link = (s.link.replied (refusal kind tag status .empty)).carries []
    let minutes (n : Nat) : Int := if n = 65535 then 0 else min 719 (n : Int)
    (∀ (r : ServicePutReq) (side : Side) (old : Service), Side.ofCode r.side = some side → servicePutBad r = false →
      s.world.textsStored r = true → s.world.service r.code = some old →
      let refused := refusedWith (.servicePut dt tag r) 0x06
      (old.state = .departed → refused .wrongState) ∧
      (old.state ≠ .departed → old.schedSm < 0 →
        ((r.schedHm : Int) - s.time.dayStart) % 1440 - 1440 + minutes r.delay < 0 → refused .outOfRange)) ∧
    ∀ r : AmendReq,
      let refused := refusedWith (.serviceAmend dt tag r) 0x07
      let bad := r.code = 0 ∨ (∃ x, r.platform = some x ∧ (48 < x.1 ∨ 2 < x.2 ∨ x.1 = 0 ∧ x.2 ≠ 0)) ∨ ∃ k, r.target = some k ∧ 2 < k
      let unstored := ∃ i, r.remark = some i ∧ i ≠ 0 ∧ s.world.text i = none
      (bad → refused .outOfRange) ∧
      (¬ bad → s.world.service r.code = none ∨ unstored → refused .notFound) ∧
      ∀ old, ¬ bad → s.world.service r.code = some old → ¬ unstored →
        let tooEarly := ∃ n, r.delay = some n ∧ old.schedSm < 0 ∧ old.schedSm + minutes n < 0
        let notFrom := ∃ k, r.target = some k ∧ (k = 2 ↔ old.state ≠ .cancelled)
        (old.state = .departed → refused .wrongState) ∧
        (old.state ≠ .departed → tooEarly → refused .outOfRange) ∧
        (old.state ≠ .departed → ¬ tooEarly → notFrom → refused .wrongState)

/-- SERVICE_DROP (R49, R50): a code of 0 is refused OUT_OF_RANGE and one not in the table NOT_FOUND; otherwise the record is retired
DROPPED whatever its state, its own notices go with it, the other records stay, and the reply is OK.

The cues about it (R153): every pending one leaves the table WITHDRAWN, SUBJECT_RETIRED, in ascending slot order, and a playing one stays
to its end, which removes it. The last clause is for a sound cue table and an arbiter that cannot start a cue; that a cue remembers that its subject
has gone is the model's own field (notes/assumptions/32.md). -/
def Obligations.ServiceDropRetiresTheRecord : Prop :=
  ∀ (s : State) (dt tag code : Nat), s.link.idle →
    (code = 0 → ∃ t, exec (.serviceDrop dt tag code) s = .next t ∧ s.OnlyWorld (s.time.elapsed + dt) t ∧
      t.world = s.world.fresh ∧ t.link = (s.link.replied (refusal 0x08 tag .outOfRange .empty)).carries []) ∧
    (code ≠ 0 → s.world.service code = none →
      ∃ t, exec (.serviceDrop dt tag code) s = .next t ∧ s.OnlyWorld (s.time.elapsed + dt) t ∧
        t.world = s.world.fresh ∧ t.link = (s.link.replied (refusal 0x08 tag .notFound .empty)).carries []) ∧
    ∀ r, code ≠ 0 → s.world.service code = some r →
      let about (c : Cue) : Prop := c.kind.ofService = true ∧ c.subject = code
      ∃ t rs, exec (.serviceDrop dt tag code) s = .next t ∧ s.OnlyWorld (s.time.elapsed + dt) t ∧
        s.world.Background t.world ∧
        (∀ x ∈ t.world.services, x.code ≠ code ∧ ∃ y ∈ s.world.services, x.hostPart = y.hostPart) ∧
        ((s.world.services.map (·.code)).Nodup → ∀ y ∈ s.world.services, y.code ≠ code →
          (y.evaluate s.world.policy (s.after dt).env).2 = none → ∃ x ∈ t.world.services, x.hostPart = y.hostPart) ∧
        (∀ n ∈ t.world.notices, n ∈ s.world.notices ∧ n.scope ≠ .service code) ∧
        Report.serviceRetired code .dropped r.state (s.world.tableSeq + 1) (s.after dt).env.reportMs ∈ rs ∧
        t.link = (s.link.replied (okReply 0x08 tag false .empty)).carries rs ∧
        (∀ c ∈ t.world.cues, about c → c.state.isPending = false) ∧
        (s.world.cues.filter fun c => decide (about c) && c.state.isPending).map (fun c =>
          Report.cueState c.handle .withdrawnSubjectRetired c.origin c.kind c.subject ((s.time.elapsed + dt) / 1000)) <:+: rs ∧
        (s.world.CuesSound → (s.world.au.available = false ∨ ∀ i : Fin 4, s.world.au.channels[i].phase ≠ .free) →
          ∀ c ∈ s.world.cues, about c → c.state.isPending = false → { c with subjectGone := true } ∈ t.world.cues)

/-- TEXT_PUT (R53, R54, R55): a text of 1..64 characters of 0x20..0xFE that fits the free cells is stored, its use count 0 where nothing
names its index, or takes the place of the characters under its index and keeps the use count, its cells reckoned as ceil(L / 8);
the same characters change nothing; any other text is refused OUT_OF_RANGE or POOL_FULL.

TEXT_DROP (R56): an index of 0, one that holds no text, or a text in use is refused, IN_USE with the use count; otherwise the text
is removed and its cells are free again. -/
def Obligations.TextsAreStoredAndFreed : Prop :=
  (∀ (s : State) (dt tag index : Nat) (chars : Chars), s.link.idle →
    let fits := index ≠ 0 ∧ 1 ≤ chars.length ∧ chars.length ≤ 64 ∧ ∀ c ∈ chars, 0x20 ≤ c.toNat ∧ c.toNat ≤ 0xFE
    let cells := (chars.length + 7) / 8
    let cmd : Instr := .textPut dt tag index chars
    let refusedWith (status : Status) := ∃ t, exec cmd s = .next t ∧ s.OnlyWorld (s.time.elapsed + dt) t ∧
      t.world = s.world.fresh ∧ t.link = (s.link.replied (refusal 0x09 tag status .empty)).carries []
    (¬ fits → refusedWith .outOfRange) ∧
    (fits → s.world.text index = none → s.world.freeCells < cells → refusedWith .poolFull) ∧
    (fits → s.world.text index = none → cells ≤ s.world.freeCells →
      ∃ t rs, exec cmd s = .next t ∧ s.OnlyWorld (s.time.elapsed + dt) t ∧ s.world.Lives (s.after dt).env t.world ∧
        ({ s.world with
          texts := insertText { index := index, chars := chars, cells := cells, uses := 0, rev := s.world.tableSeq + 1 }
            s.world.texts
          freeCells := s.world.freeCells - cells } : World).Background t.world ∧
        ((∀ y ∈ s.world.services, index ∉ y.refs) → (∀ n ∈ s.world.notices, n.text ≠ index) →
          ∀ x ∈ t.world.texts, x.index = index → x.uses = 0) ∧
        t.link = (s.link.replied (okReply 0x09 tag false .empty)).carries rs) ∧
    ∀ old, fits → s.world.text index = some old →
      (s.world.freeCells + old.cells < cells → refusedWith .poolFull) ∧
      (cells ≤ s.world.freeCells + old.cells → old.chars = chars →
        ∃ t, exec cmd s = .next t ∧ s.OnlyWorld (s.time.elapsed + dt) t ∧ t.world = s.world.fresh ∧
          t.link = (s.link.replied (okReply 0x09 tag false .empty)).carries []) ∧
      (cells ≤ s.world.freeCells + old.cells → old.chars ≠ chars →
        ∃ t rs, exec cmd s = .next t ∧ s.OnlyWorld (s.time.elapsed + dt) t ∧
          ({ s.world with
            texts := insertText { old with chars := chars, cells := cells, rev := s.world.tableSeq + 1 } s.world.texts
            freeCells := s.world.freeCells + old.cells - cells } : World).Background t.world ∧
          (s.world.TablesSound → ∀ x ∈ t.world.texts, x.index = index → x.uses = t.world.references index ∧
            ((∀ y ∈ s.world.services, (y.evaluate s.world.policy (s.after dt).env).2 = none) → x.uses = old.uses)) ∧
          t.link = (s.link.replied (okReply 0x09 tag false (.rev (s.world.tableSeq + 1)))).carries rs)) ∧
  (∀ (s : State) (dt tag index : Nat), s.link.idle →
    let cmd : Instr := .textDrop dt tag index
    let refusedWith (status : Status) (body : ReplyBody) := ∃ t, exec cmd s = .next t ∧
      s.OnlyWorld (s.time.elapsed + dt) t ∧ t.world = s.world.fresh ∧
      t.link = (s.link.replied (refusal 0x0A tag status body)).carries []
    (index = 0 → refusedWith .outOfRange .empty) ∧
    (index ≠ 0 → s.world.text index = none → refusedWith .notFound .empty) ∧
    ∀ old, index ≠ 0 → s.world.text index = some old →
      (old.uses ≠ 0 → refusedWith .inUse (.useCount old.uses)) ∧
      (old.uses = 0 →
        ∃ t rs, exec cmd s = .next t ∧ s.OnlyWorld (s.time.elapsed + dt) t ∧ s.world.Lives (s.after dt).env t.world ∧
          ({ s.world with
            texts := s.world.texts.filter (·.index != index)
            freeCells := s.world.freeCells + old.cells } : World).Background t.world ∧
          t.link = (s.link.replied (okReply 0x0A tag false .empty)).carries rs))

/-- LIFECYCLE_SET (R59, R60): the six values are clamped into their ranges; a changed policy evaluates every record at once, so that each
record still in the table is settled under it; one that changes nothing evaluates nothing. -/
def Obligations.LifecycleSetTakesThePolicy : Prop :=
  ∀ (s : State) (dt tag : Nat) (r : LifecycleReq), s.link.idle → (s.world.services.map (·.code)).Nodup →
    let p : Lifecycle :=
      { boardLead := max 1 (min 60 r.boardLead), closeLead := min 300 r.closeLead
        departedHold := max 30 (min 600 r.departedHold), cancelHold := min 60 r.cancelHold
        abandon := max 30 (min 240 r.abandon), changeDisplay := min 30 r.changeDisplay }
    ∃ t rs adjusted, exec (.lifecycleSet dt tag r) s = .next t ∧ s.OnlyWorld (s.time.elapsed + dt) t ∧
      ({ s.world with policy := p } : World).Background t.world ∧
      (adjusted = false ↔ p.boardLead = r.boardLead ∧ p.closeLead = r.closeLead ∧ p.departedHold = r.departedHold ∧
        p.cancelHold = r.cancelHold ∧ p.abandon = r.abandon ∧ p.changeDisplay = r.changeDisplay) ∧
      t.link = (s.link.replied (okReply 0x0B tag adjusted .empty)).carries rs ∧
      (p = s.world.policy → t.world = s.world.fresh) ∧
      (p ≠ s.world.policy → ∀ x ∈ t.world.services, x.settled p t.env ∧ ∃ y ∈ s.world.services, x.hostPart = y.hostPart)

/-- NOTICE_PUT (R71 to R74): a notice in its ranges whose text, and service where it names one, are there, and whose end does not lie in
the past, stands in the list as the host gives it, with its offsets reckoned from D and `active` decided; it takes a new
stamp where a displayed field changed, and the reply carries its stamp; a replacement equal in every field the host gives changes nothing, its offsets included
(the model's choice, notes/assumptions/19.md).

The refusals of NOTICE_PUT in their order (R73): a value out of range OUT_OF_RANGE, a text or service that is not stored NOT_FOUND,
a start equal to the end CONFLICT, an end already past PAST, and a new id on a full list TABLE_FULL.

A minute event, a step event and a day roll, which first lowers the offsets by a day (R74, R4, R7, R8, R72), decide every notice at
the new time: it is active once its start has come, leaves EXPIRED once its end has, and is stamped where its `active` changed. A
SECOND_EVENT within a minute decides none. That a minute or a boundary passed before is taken by the next SECOND_EVENT, and decides the
notices at the present time and not at its own, is the model's choice (notes/assumptions/2.md).

NOTICE_DROP (R75): an id of 0 is refused OUT_OF_RANGE and one not in the list NOT_FOUND; otherwise the notice leaves the list, without
a NOTICE_ENDED report of its own, and the reply is OK. The cues that announce a notice (R152, R153) are not spoken of here. -/
def Obligations.NoticesAreListedAndRemoved : Prop :=
  (∀ (s : State) (dt tag : Nat) (r : NoticePutReq), s.link.idle → noticePutBad r = false → s.world.noticeFinds r = true →
    (r.startMs = none ∨ r.startMs ≠ r.endMs) → s.world.NoticesSound →
    let e := (s.after dt).env
    let old := s.world.notice r.id
    let offset (ms : Nat) : Int := ((ms : Int) - s.time.dayStart * 60000) % 86400000
    let start : Option Int := r.startMs.map offset
    let stop : Option Int := r.endMs.map fun ms =>
      match (if r.startMs.isSome then start else if e.valid then some e.nms else none) with
      | some y => if offset ms ≤ y then offset ms + 86400000 else offset ms
      | none => offset ms
    let active : Bool := match start with
      | some x => e.valid && decide (x ≤ e.nms)
      | none => true
    let period : Nat := if r.period = 0 then 0 else max 2 (min 60 r.period)
    let given (rev : Seq) : Notice :=
      { id := r.id, text := r.text, scope := r.scope, priority := r.priority, startMs := r.startMs, endMs := r.endMs
        period := period, startOff := start, endOff := stop, active := active, rev := rev }
    let shows := ∀ o, old = some o → ¬ (o.text = r.text ∧ o.scope = r.scope ∧ o.priority = r.priority ∧ o.active = active)
    let same := ∃ o, old = some o ∧ o.text = r.text ∧ o.scope = r.scope ∧ o.priority = r.priority ∧ o.startMs = r.startMs ∧
      o.endMs = r.endMs ∧ o.period = period
    ¬ (e.valid = true ∧ ∃ x, stop = some x ∧ x ≤ e.nms) → (old = none → s.world.notices.length < 32) →
    (same → ∃ t rev, exec (.noticePut dt tag r) s = .next t ∧ s.OnlyWorld (s.time.elapsed + dt) t ∧ t.world = s.world.fresh ∧
      (∀ o, old = some o → rev = o.rev) ∧
      t.link = (s.link.replied (okReply 0x0C tag (period != r.period) (.rev rev))).carries []) ∧
    (¬ same →
      ∃ t rs rev, exec (.noticePut dt tag r) s = .next t ∧ s.OnlyWorld (s.time.elapsed + dt) t ∧
        s.world.Background t.world ∧ (shows → rev = s.world.tableSeq + 1) ∧ (¬ shows → ∀ o, old = some o → rev = o.rev) ∧
        (∀ n ∈ t.world.notices, (n.id = r.id → n = given rev) ∧ (n.id ≠ r.id → n ∈ s.world.notices)) ∧
        ((∀ code, r.scope ≠ .service code) → given rev ∈ t.world.notices) ∧
        t.link = (s.link.replied (okReply 0x0C tag (period != r.period) (.rev rev))).carries rs)) ∧
  (∀ (s : State) (dt tag id : Nat), s.link.idle →
    (id = 0 → ∃ t, exec (.noticeDrop dt tag id) s = .next t ∧ s.OnlyWorld (s.time.elapsed + dt) t ∧
      t.world = s.world.fresh ∧ t.link = (s.link.replied (refusal 0x0D tag .outOfRange .empty)).carries []) ∧
    (id ≠ 0 → s.world.notice id = none →
      ∃ t, exec (.noticeDrop dt tag id) s = .next t ∧ s.OnlyWorld (s.time.elapsed + dt) t ∧
        t.world = s.world.fresh ∧ t.link = (s.link.replied (refusal 0x0D tag .notFound .empty)).carries []) ∧
    (id ≠ 0 → s.world.notice id ≠ none →
      ∃ t rs, exec (.noticeDrop dt tag id) s = .next t ∧ s.OnlyWorld (s.time.elapsed + dt) t ∧
        s.world.Background t.world ∧ s.world.Lives (s.after dt).env t.world ∧ (∀ n ∈ t.world.notices, n.id ≠ id) ∧
        (∀ why ms, Report.noticeEnded id why ms ∉ rs) ∧
        t.link = (s.link.replied (okReply 0x0D tag false .empty)).carries rs)) ∧
  (∀ s t : State, s.world.NoticesSound →
    let boundary := s.time.dayStart * 60000000
    let lowered : List Notice := s.world.notices.map fun n => { n with
      startOff := n.startOff.map (· - 86400000), endOff := n.endOff.map (· - 86400000) }
    let decides (link : Link) (l : List Notice) : Prop :=
      ∃ rs, t.link = link.carries rs ∧ t.world.NoticesDecided l t.env rs
    let stepped (link : Link) (now : TimeBase) (delta : Int) : Prop :=
      (meetsForward boundary now.station delta → s.time.rollHeld = false → decides link lowered) ∧
      (¬ meetsForward boundary now.station delta ∨ s.time.rollHeld = true → decides link s.world.notices)
    let shorter (link : Link) (now : TimeBase) : Prop := ∀ delta : Int, -43200000000 ≤ delta → delta < 43200000000 →
      (t.time.station : Int) = (now.station + delta) % 86400000000 → stepped link now delta
    (s.time.validity = .setTime → s.time.dayStart ≤ 1439 →
      (∀ b, (∃ rest, s.time.due = b :: rest) ∨ s.time.due = [] ∧ s.time.Sound ∧ (s.time.runTo t.time.elapsed).due = [b] →
        exec .secondEvent s = .next t →
        (b % 60000000 ≠ 0 → s.world.NoticesKept t.world) ∧
        (b = boundary → s.time.rollHeld = false → decides s.link lowered) ∧
        (b % 60000000 = 0 → b ≠ boundary ∨ s.time.rollHeld = true → decides s.link s.world.notices)) ∧
      (∀ dt tag minutes, s.link.idle → minutes ≠ 0 → -1440 ≤ minutes → minutes ≤ 1440 →
        exec (.timeStep dt tag minutes) s = .next t →
        stepped (s.link.replied (okReply 0x02 tag false .empty)) (s.time.runTo (s.time.elapsed + dt)) (minutes * 60000000)) ∧
      (∀ dt tag h, s.link.idle → h ≤ 86399999 → exec (.timeSet dt tag h) s = .next t →
        t.time.station ≠ (s.time.runTo (s.time.elapsed + dt)).station →
        shorter (s.link.replied (okReply 0x01 tag false .empty)) (s.time.runTo (s.time.elapsed + dt))) ∧
      (exec (.gapConfirmed refLine) s = .next t → t.time.station ≠ (s.time.runTo t.time.elapsed).station →
        shorter s.link (s.time.runTo t.time.elapsed))) ∧
    (s.time.validity = .unsetTime → ∀ dt tag h, s.link.idle → h ≤ 86399999 → exec (.timeSet dt tag h) s = .next t →
      decides (s.link.replied (okReply 0x01 tag false .empty)) s.world.notices)) ∧
  ∀ (s : State) (dt tag : Nat) (r : NoticePutReq), s.link.idle →
    let refused (status : Status) : Prop := ∃ t, exec (.noticePut dt tag r) s = .next t ∧
      s.OnlyWorld (s.time.elapsed + dt) t ∧ t.world = s.world.fresh ∧
      t.link = (s.link.replied (refusal 0x0C tag status .empty)).carries []
    let e := (s.after dt).env
    let offset (ms : Nat) : Int := ((ms : Int) - s.time.dayStart * 60000) % 86400000
    let bad := r.id = 0 ∨ r.text = 0 ∨ r.scope = .platforms 0#48 ∨ r.scope = .service 0 ∨ 3 < r.priority ∨
      (∃ ms, r.startMs = some ms ∧ 86399999 < ms) ∨ ∃ ms, r.endMs = some ms ∧ 86399999 < ms
    let missing := s.world.text r.text = none ∨ ∃ code, r.scope = .service code ∧ s.world.service code = none
    let equal := ∃ ms, r.startMs = some ms ∧ r.endMs = some ms
    let past := e.valid = true ∧ ∃ from_ until_, r.startMs = some from_ ∧ r.endMs = some until_ ∧
      offset from_ < offset until_ ∧ offset until_ ≤ e.nms
    (bad → refused .outOfRange) ∧
    (¬ bad → missing → refused .notFound) ∧
    (¬ bad → ¬ missing → equal → refused .conflict) ∧
    (¬ bad → ¬ missing → ¬ equal → past → refused .past) ∧
    (¬ bad → ¬ missing → ¬ equal → ¬ past → s.world.notice r.id = none → 32 ≤ s.world.notices.length →
      refused .tableFull)

/-! ## Views and composition -/

/-- VIEW_SET (R78 to R80): four window records in their ranges that fit the row total and do not meet take the place of a string's own; a
slot whose record is unchanged keeps its page timer, another starts it anew; four unchanged records change nothing. The string is
composed as a whole in the new layout (R81, R82, R94), the other strings stay, and from QUIET a wanted commit is in SETTLING (R101, R102);
this is for a wall that does not stage within the step. A
window that does not fit is refused OUT_OF_RANGE, two that meet CONFLICT. A string outside 1..16, and a record, enabled or not, with a first
row, a row count, a source or a parameter of its source out of range, is refused OUT_OF_RANGE before (R79). -/
def Obligations.ViewSetReplacesTheWindows : Prop :=
  (∀ (s : State) (dt tag : Nat) (n : StringNo) (r : Fin 4 → WindowReq) (x : Fin 4 → Window), s.link.idle →
    (∀ k, windowOf (r k) = some (x k)) →
    let total := s.world.rowTotal n
    let now := s.time.elapsed + dt
    let cmd : Instr := .viewSet dt tag (n.val + 1) (r 0) (r 1) (r 2) (r 3)
    let old (k : Fin 4) : Window := (s.world.view n).windows[k]
    let new (k : Fin 4) : Window :=
      if (old k).sameRecord (x k) = true then old k
      else if (x k).enabled = true ∧ (x k).period ≠ 0 then { x k with pageTimer := some (now + (x k).period * 1000000) }
      else { x k with pageTimer := none }
    let fits := ∀ k, (x k).enabled = true → (x k).firstRow + (x k).rowCount ≤ total
    let apart := ∀ j k, j ≠ k → (x j).enabled = true → (x k).enabled = true →
      (x j).firstRow + (x j).rowCount ≤ (x k).firstRow ∨ (x k).firstRow + (x k).rowCount ≤ (x j).firstRow
    let reply := okReply 0x11 tag (decide (∃ k, (x k).period ≠ (r k).period)) .empty
    (¬ fits → ∃ t, exec cmd s = .next t ∧ s.OnlyWorld now t ∧ t.world = s.world.fresh ∧
      t.link = (s.link.replied (refusal 0x11 tag .outOfRange .empty)).carries []) ∧
    (fits → ¬ apart → ∃ t, exec cmd s = .next t ∧ s.OnlyWorld now t ∧ t.world = s.world.fresh ∧
      t.link = (s.link.replied (refusal 0x11 tag .conflict .empty)).carries []) ∧
    (fits → apart → (∀ k, (old k).sameRecord (x k) = true) →
      ∃ t, exec cmd s = .next t ∧ s.OnlyWorld now t ∧ t.world = s.world.fresh ∧ t.link = (s.link.replied reply).carries []) ∧
    (fits → apart → ¬ (∀ k, (old k).sameRecord (x k) = true) →
      ∃ t rs, exec cmd s = .next t ∧ s.OnlyWorld now t ∧
        (s.world.setView n { s.world.view n with windows := Vector.ofFn new }).Background t.world ∧
        t.link = (s.link.replied reply).carries rs ∧
        ((s.world.commit.state = .quiet → s.world.commit.settings.settle ≠ 0 ∨ s.world.commit.batchOpen = true) →
          t.world = { s.world.fresh with views := t.world.views, commit := t.world.commit } ∧ rs = [] ∧
          (∀ m, m ≠ n → t.world.view m = s.world.view m) ∧
          t.world.view n = (((s.world.setView n { s.world.view n with windows := Vector.ofFn new }).composeString n
            (s.after dt).env).1.view n) ∧
          s.world.SettlesFrom now t.world))) ∧
  ∀ (s : State) (dt tag string : Nat) (a b c d : WindowReq), s.link.idle →
    let badSource : SourceReq → Prop
      | .departures m _ _ offset => m = 0#48 ∨ 127 < offset
      | .platform p => p = 0 ∨ 48 < p
      | .fixed text => text = 0
      | .unknown _ => True
      | _ => False
    let bad (r : WindowReq) := 47 < r.firstRow ∨ r.rowCount = 0 ∨ 48 < r.rowCount ∨ badSource r.source
    string = 0 ∨ 16 < string ∨ bad a ∨ bad b ∨ bad c ∨ bad d →
    ∃ t, exec (.viewSet dt tag string a b c d) s = .next t ∧ s.OnlyWorld (s.time.elapsed + dt) t ∧ t.world = s.world.fresh ∧
      t.link = (s.link.replied (refusal 0x11 tag .outOfRange .empty)).carries []

/-- COMPOSE_SET (R93): a horizon above 60 is taken as 60 and adjusted; one that changes nothing recomposes nothing. A changed one leaves
every row of a PLATFORM window composed (R94, R95) and from QUIET a wanted commit in SETTLING (R101, R102), on a wall that does not
stage within the step.

PAGE_EXPIRY (R88, R89): the page timer is set to its expiry plus the period, whatever else happens; in a DEPARTURES or TICKER window
the index moves on, from the last page to the first, and in any other window nothing more changes. The clause on the index is for a
wall that does not stage within the step. -/
def Obligations.HorizonAndPagesTurn : Prop :=
  (∀ (s : State) (dt tag minutes : Nat), s.link.idle →
    ∃ t rs, exec (.composeSet dt tag minutes) s = .next t ∧ s.OnlyWorld (s.time.elapsed + dt) t ∧
      ({ s.world with dueHorizon := min 60 minutes } : World).Background t.world ∧ s.world.Lives t.env t.world ∧
      (min 60 minutes = s.world.dueHorizon → t.world = s.world.fresh ∧ rs = []) ∧
      (min 60 minutes ≠ s.world.dueHorizon → (∀ n, (s.world.view n).targets.length = s.world.rowTotal n) →
        (s.world.commit.state = .quiet → s.world.commit.settings.settle ≠ 0 ∨ s.world.commit.batchOpen = true) →
        s.world.Recomposed (fun x => ∃ p, x = .platform p) (s.after dt).env t.world ∧
        s.world.SettlesFrom (s.time.elapsed + dt) t.world) ∧
      t.link = (s.link.replied (okReply 0x12 tag (decide (60 < minutes)) .empty)).carries rs) ∧
  (∀ (s : State) (n : StringNo) (k : Fin 4) (x : Nat),
    let old := (s.world.view n).windows[k]
    old.pageTimer = some x →
    ∃ t rs, exec (.pageExpiry n k) s = .next t ∧ s.OnlyWorld x t ∧ t.link = s.link.carries rs ∧
      (s.world.setView n { s.world.view n with
        windows := (s.world.view n).windows.set k { old with pageTimer := some (x + old.period * 1000000) } }).Background
          t.world ∧
      (old.source.rotates = false →
        t.world = s.world.fresh.setView n { s.world.view n with
          windows := (s.world.view n).windows.set k { old with pageTimer := some (x + old.period * 1000000) } }) ∧
      (old.source.rotates = true → (s.world.commit.state = .quiet → s.world.commit.settings.settle ≠ 0 ∨
          s.world.commit.batchOpen = true) →
        (t.world.view n).windows[k].pageIndex =
          (old.pageIndex + 1) % pageCount s.world old (old.rowsIn (s.world.rowTotal n))))

/-- A string composed as a whole (R81 to R87): it has as many target rows as its row total; a row that no enabled window covers is
EMPTY. In a row that one window alone covers: a DEPARTURES window shows its page, 0 where its index is beyond the last page (R89), of
the listed records after its offset (R83), as DEPARTURE_MAIN; a PLATFORM window its platform's non-terminal records, the first as
DEPARTURE_MAIN and the others as DEPARTURE_BRIEF (R84); CLOCK, TICKER and FIXED the station minute or "--:--" while UNSET, the
notice of its page, or the stored text in their first row and EMPTY after (R85 to R87). The fields of a departure row are those of
R90, its status the first of R91 and R92 that holds, its remark the record's own or else the text of the active SERVICE notice of
lowest priority value and id (R90); the notices of a ticker come by priority, then id (R86). -/
def Obligations.AComposedStringShowsItsWindows : Prop :=
  ∀ (w : World) (n : StringNo) (e : Env),
    let v := w.view n
    let total := w.rowTotal n
    let rows := ((w.composeString n e).1.view n).targets
    let covers (k : Fin 4) (i : Nat) := v.windows[k].enabled = true ∧ v.windows[k].firstRow ≤ i ∧
      i < v.windows[k].firstRow + v.windows[k].rowCount
    let status (onPlatform : Bool) (r : Service) : RowStatus :=
      let left := e.timeTo r.effSm
      if r.state = .cancelled then .cancelled
      else if r.state = .departed then .departed
      else if r.attention = true then .platformChanged (match r.prev with
        | some (p, side) => platformText p side
        | none => platformText 0 .none)
      else if r.state = .closing then .closing
      else if r.delay = .indefinite ∨ r.overdue = true then .delayed
      else if r.delay ≠ .minutes 0 then .expected (hhmm ((r.effSm + e.dayStart) % 1440).toNat)
      else if onPlatform = true ∧ e.valid = true ∧ 0 < left ∧ left ≤ w.dueHorizon * 60000 then
        .dueIn ((left + 59999) / 60000).toNat
      else if onPlatform = true ∧ e.valid = true ∧ -60000 < left ∧ left ≤ 0 then .due
      else if r.state = .boarding then .boarding
      else .onTime
    let main (onPlatform : Bool) (r : Service) : RowRec :=
      .departureMain (hhmm r.schedHm) (w.chars r.dest) (r.vias.map w.chars) (platformText r.platform r.side) r.operator
        (status onPlatform r) (remarkText w r) r.attention
    let brief (r : Service) : RowRec :=
      .departureBrief (hhmm r.schedHm) (w.chars r.dest) (platformText r.platform r.side) r.operator (status true r) r.attention
    let page (k : Fin 4) (pages : Nat) : Nat := if v.windows[k].pageIndex < pages then v.windows[k].pageIndex else 0
    rows.length = total ∧
    (∀ i, i < total → (∀ k, ¬ covers k i) → rows[i]? = some .empty) ∧
    (∀ i k, i < total → covers k i → (∀ j, covers j i → j = k) →
      let x := v.windows[k]
      let inWindow := min x.rowCount (total - x.firstRow)
      (∀ mask departed cancelled offset, x.source = .departures mask departed cancelled offset →
        let entries := (w.services.filter fun r =>
          decide ((r.platform = 0 ∨ mask.getLsbD (r.platform - 1) = true) ∧ (r.state = .departed → departed = true) ∧
            (r.state = .cancelled → cancelled = true))).drop offset
        let pages := max 1 ((entries.length + inWindow - 1) / inWindow)
        rows[i]? = some (match entries[page k pages * inWindow + (i - x.firstRow)]? with
          | some r => main false r
          | none => .empty)) ∧
      (∀ p, x.source = .platform p →
        rows[i]? = some (match (w.services.filter fun r =>
            decide (r.platform = p ∧ r.state ≠ .departed ∧ r.state ≠ .cancelled))[i - x.firstRow]? with
          | some r => if i = x.firstRow then main true r else brief r
          | none => .empty)) ∧
      (x.source = .clock → rows[i]? = some (if i = x.firstRow then
        .clock (if e.valid then hhmm e.minute else [0x2D, 0x2D, 0x3A, 0x2D, 0x2D]) else .empty)) ∧
      (∀ mask, x.source = .ticker mask →
        rows[i]? = some (if i = x.firstRow then
          (match (tickerEntries w mask)[page k (max 1 (tickerEntries w mask).length)]? with
            | some y => .notice (w.chars y.text)
            | none => .empty) else .empty)) ∧
      ∀ text, x.source = .fixed text → rows[i]? = some (if i = x.firstRow then
        (match w.text text with
          | some y => .fixed y.chars
          | none => .empty) else .empty)) ∧
    (w.NoticesSound → (∀ y ∈ w.notices, y.priority ≤ 3) →
      (∀ mask, (tickerEntries w mask).Pairwise (fun a b => a.priority < b.priority ∨ a.priority = b.priority ∧ a.id < b.id) ∧
        ∀ y, y ∈ tickerEntries w mask ↔ y ∈ w.notices ∧ y.active = true ∧
          (y.scope = .wall ∨ ∃ m, y.scope = .platforms m ∧ m &&& mask ≠ 0)) ∧
      ∀ r ∈ w.services,
        (∀ i, r.remark = some i → remarkText w r = some (w.chars i)) ∧
        (r.remark = none → ∀ y ∈ w.notices, y.active = true → y.scope = .service r.code →
          (∀ z ∈ w.notices, z.active = true → z.scope = .service r.code →
            y.priority < z.priority ∨ y.priority = z.priority ∧ y.id ≤ z.id) →
          remarkText w r = some (w.chars y.text)) ∧
        (r.remark = none → (∀ y ∈ w.notices, ¬ (y.active = true ∧ y.scope = .service r.code)) → remarkText w r = none))

/-! ## The wall commit -/

/-- SETTLE_EXPIRY with the batch OPEN (R102, R103): the timer is gone and nothing is staged. With it CLOSED (R105, R106): every enabled string
with dirty rows, or with restage-all, takes part, a DARK one only when it is ready; one whose channel is FAULTED or with a
staged row on a LOST module fails at once and keeps restage-all, with cause FAULTED where it is both (the model's choice,
notes/assumptions/66.md), and every other one's rows are queued to its modules.

A commit all of whose participants fail at once (R106, R108, R110): none remains in staging, and the wall is latched in the same step
without a deadline: every participant's line gets a blank pulse, those of group B after the stagger where both groups have one and the
stagger is not 0. This is for a wall on which no string has a part before (R111).

A commit without participants (R107, R111): at the end of SETTLING it completes at once: the generation advances by one and wall_seq takes
the table_seq of the snapshot, while every shown row stays. -/
def Obligations.SettlingEndsInASnapshot : Prop :=
  (∀ (s : State) (x : Nat), s.world.commit.settleTimer = some x → s.world.commit.state = .settling →
    let now := max s.time.elapsed x
    let w := s.world
    let rows (n : StringNo) := if (w.wall n).restage then List.range (w.rowTotal n) else w.dirty n
    let staged (n : StringNo) := (rows n).map fun i =>
      ({ row := i, rowRec := (w.view n).targets.getD i .empty, acked := false } : StagedRow)
    let takesPart (n : StringNo) := (w.channel n).settings.enabled = true ∧ rows n ≠ [] ∧
      ((w.wall n).lit = .dark → w.ready n = true)
    let faulted (n : StringNo) := (w.channel n).state = .faulted
    let onLost (n : StringNo) := ∃ i ∈ rows n, (w.channel n).healthOf (i / (w.channel n).settings.rows + 1) = .lost
    (w.commit.batchOpen = true →
      ∃ t, exec .settleExpiry s = .next t ∧ s.OnlyWorld x t ∧ t.link = s.link.carries [] ∧
        t.world = { w.fresh with commit := { w.commit with settleTimer := none } }) ∧
    (w.commit.batchOpen = false → (∃ n, takesPart n ∧ ¬ faulted n ∧ ¬ onLost n) →
      ∃ t, exec .settleExpiry s = .next t ∧ s.OnlyWorld x t ∧ t.link = s.link.carries [] ∧
        t.world = { w.fresh with
          walls := t.world.walls
          channels := t.world.channels
          commit := { w.commit with
            state := .staging, commitSeq := w.tableSeq, minutePending := false, settleTimer := none
            deadlineTimer := some (now + w.commit.settings.deadline * 1000) } } ∧
        ∀ n,
          (¬ takesPart n → t.world.wall n = w.wall n ∧ t.world.channel n = w.channel n) ∧
          (takesPart n → faulted n ∨ onLost n → t.world.channel n = w.channel n ∧
            ∃ cause, (cause = .faulted ↔ faulted n) ∧ (cause = .lostModule ↔ ¬ faulted n) ∧
              t.world.wall n = { w.wall n with
                part := .failed, restage := true, staged := staged n, cause := some cause }) ∧
          (takesPart n → ¬ faulted n → ¬ onLost n →
            t.world.wall n = { w.wall n with part := .staging, restage := false, staged := staged n, cause := none } ∧
            t.world.channel n = (w.channel n).queueStages (staged n))) ∧
    let fails (n : StringNo) := takesPart n ∧ (faulted n ∨ onLost n)
    let wait := (∃ n, fails n ∧ (w.channel n).settings.group = .a) ∧ (∃ n, fails n ∧ (w.channel n).settings.group = .b) ∧
      w.commit.settings.stagger ≠ 0
    (w.commit.batchOpen = false → (∀ n, (w.wall n).part = .none) → (∃ n, takesPart n) → (∀ n, takesPart n → faulted n ∨ onLost n) →
      ∃ t, exec .settleExpiry s = .next t ∧ s.OnlyWorld x t ∧ t.link = s.link.carries [] ∧
        t.world = { w.fresh with
          walls := t.world.walls
          latches := t.world.latches
          commit := { w.commit with
            state := if wait then .latchA else .latchB, commitSeq := w.tableSeq, minutePending := false, settleTimer := none
            deadlineTimer := none
            staggerTimer := if wait then some (now + w.commit.settings.stagger * 1000) else none } } ∧
        ∀ n,
          t.world.wall n = (if takesPart n then { w.wall n with
            part := .failed, restage := true, staged := staged n
            cause := some (if faulted n then .faulted else .lostModule) } else w.wall n) ∧
          t.world.latch n = if takesPart n ∧ ¬ (wait ∧ (w.channel n).settings.group = .b) then
            (w.latch n).ask .blank true now else w.latch n)) ∧
  (∀ (s : State) (x : Nat), s.world.commit.settleTimer = some x → s.world.commit.state = .settling →
    s.world.commit.batchOpen = false → s.world.commit.settings.settle ≠ 0 →
    (∀ n, (s.world.wall n).part = .none) →
    (∀ n, (s.world.channel n).settings.enabled = true →
      (s.world.wall n).restage = false ∧ s.world.dirty n = [] ∨ (s.world.wall n).lit = .dark ∧ s.world.ready n = false) →
    ∃ t rs, exec .settleExpiry s = .next t ∧ s.OnlyWorld x t ∧ t.link = s.link.carries rs ∧ s.world.Background t.world ∧
      t.world.commit.generation = s.world.commit.generation + 1 ∧ t.world.commit.wallSeq = s.world.tableSeq ∧
      t.world.commit.commitSeq = s.world.tableSeq ∧
      ∀ n, t.world.wall n = { s.world.wall n with staged := [], cause := none })

/-- STAGING_DEADLINE_EXPIRY (R109, R108, R110): every participant still in part STAGING fails with cause DEADLINE, its queued rows are
discarded, but for the frame of an exchange on the line (notes/assumptions/35.md), and the wall is latched: the STAGED strings of a
group get a latch pulse and the FAILED ones a blank pulse, group B after the stagger where both groups have one to pulse and the
stagger is not 0.

STAGGER_EXPIRY (R110): LATCH_B is entered and the strings of group B get their pulses, the STAGED a latch pulse, the FAILED a blank
pulse; the lines of group A are left alone. -/
def Obligations.DeadlineAndStaggerLatchTheWall : Prop :=
  (∀ (s : State) (x : Nat), s.world.commit.deadlineTimer = some x → s.world.commit.state = .staging →
    (∃ n, (s.world.wall n).part = .staging) →
    let now := max s.time.elapsed x
    let w := s.world
    let wall (n : StringNo) : Wall := if (w.wall n).part = .staging then
      { w.wall n with part := .failed, restage := true, cause := some .deadline } else w.wall n
    let active (g : Group) := ∃ n, (w.channel n).settings.group = g ∧ ((wall n).part = .staged ∨ (wall n).part = .failed)
    let wait := active .a ∧ active .b ∧ w.commit.settings.stagger ≠ 0
    ∃ t, exec .stagingDeadlineExpiry s = .next t ∧ s.OnlyWorld x t ∧ t.link = s.link.carries [] ∧
      t.world = { w.fresh with
        walls := t.world.walls
        channels := t.world.channels
        latches := t.world.latches
        commit := t.world.commit } ∧
      (wait → t.world.commit = { w.commit with
        state := .latchA, deadlineTimer := none, staggerTimer := some (now + w.commit.settings.stagger * 1000) }) ∧
      (¬ wait → t.world.commit = { w.commit with state := .latchB, deadlineTimer := none, staggerTimer := none }) ∧
      ∀ n, t.world.wall n = wall n ∧
        t.world.channel n = (if (w.wall n).part = .staging then (w.channel n).discard now else w.channel n) ∧
        t.world.latch n =
          if wait ∧ (w.channel n).settings.group = .b then w.latch n
          else match (wall n).part with
            | .staged => (w.latch n).ask .latch true now
            | .failed => (w.latch n).ask .blank true now
            | _ => w.latch n) ∧
  (∀ (s : State) (x : Nat), s.world.commit.staggerTimer = some x →
    (∃ n, (s.world.channel n).settings.group = .b ∧
      ((s.world.wall n).part = .staged ∨ (s.world.wall n).part = .failed)) →
    let now := max s.time.elapsed x
    let w := s.world
    ∃ t, exec .staggerExpiry s = .next t ∧ s.OnlyWorld x t ∧ t.link = s.link.carries [] ∧
      t.world = { w.fresh with
        latches := t.world.latches
        commit := { w.commit with state := .latchB, staggerTimer := none } } ∧
      ∀ n, t.world.latch n =
        if (w.channel n).settings.group = .b then
          match (w.wall n).part with
          | .staged => (w.latch n).ask .latch true now
          | .failed => (w.latch n).ask .blank true now
          | _ => w.latch n
        else w.latch n)

/-- PULSE_END (R100, R111, R112): the next pulse asked for on the line begins without a gap, a latch pulse for 1 ms and a blank pulse for 10 ms.
When the last pulse of a commit in LATCH_B ends, the commit completes: a STRING_STATE report tells each string that became LIT
(LATCHED) or DARK (its cause) of the new generation. The last clause is for a wall that nothing can stage again within the step:
there the generation advances, wall_seq takes commit_seq, a STAGED string is LIT with its staged rows, a FAILED one is DARK with
every shown row EMPTY and restage-all set, and no other string's rows change ("dark rather than wrong", 00_scope). The completion
releases the cues (R142): every cue in PENDING_WALL whose `seq` the new wall_seq has reached enters QUEUED with `queued_at` the moment
of completion, and no other cue changes, over a sound cue table and an arbiter that cannot start a cue. -/
def Obligations.TheLastPulseCompletesTheCommit : Prop :=
  ∀ (s : State) (n : StringNo) (x : Nat), (s.world.latch n).ends = some x →
    let now := max s.time.elapsed x
    let w := s.world
    let next : LatchLine := match (w.latch n).pulses.tail with
      | [] => { pulses := [], ends := none }
      | p :: rest => { pulses := p :: rest, ends := some (now + if p.kind = .latch then 1000 else 10000) }
    let last := w.commit.state = .latchB ∧ next.pulses.any (·.ofCommit) = false ∧
      ∀ m, m ≠ n → (w.latch m).pulses.any (·.ofCommit) = false
    (¬ last → ∃ t, exec (.pulseEnd n) s = .next t ∧ s.OnlyWorld x t ∧ t.link = s.link.carries [] ∧
      t.world = w.fresh.setLatch n next) ∧
    (last → ∃ t rs, exec (.pulseEnd n) s = .next t ∧ s.OnlyWorld x t ∧ t.link = s.link.carries rs ∧ w.Background t.world ∧
      ∀ m, ((w.wall m).part = .staged → (w.wall m).lit = .dark →
          Report.stringState (m.val + 1) .lit .latched (w.commit.generation + 1) ∈ rs) ∧
        ∀ cause, (w.wall m).part = .failed → (w.wall m).lit = .lit → (w.wall m).cause = some cause →
          Report.stringState (m.val + 1) .dark (.failed cause) (w.commit.generation + 1) ∈ rs) ∧
    (last → (w.commit.batchOpen = true ∨ (w.commit.settings.settle ≠ 0 ∧ w.commit.minutePending = false)) →
      ∃ t rs, exec (.pulseEnd n) s = .next t ∧ s.OnlyWorld x t ∧ t.link = s.link.carries rs ∧ w.Background t.world ∧
        w.Lives t.env t.world ∧ t.world.commit.generation = w.commit.generation + 1 ∧
        t.world.commit.wallSeq = w.commit.commitSeq ∧
        (t.world.commit.state = .quiet ∨ t.world.commit.state = .settling) ∧
        (w.CuesSound → (w.au.available = false ∨ ∀ i : Fin 4, w.au.channels[i].phase ≠ .free) →
          t.world.cues = w.cues.map fun c =>
            if c.state = .pendingWall ∧ notEarlier w.commit.commitSeq c.seq = true then
              { c with state := .queued, queuedAt := some now, aged := 0 }
            else c) ∧
        ∀ m, t.world.latch m = (if m = n then next else w.latch m) ∧
          t.world.wall m = { (match (w.wall m).part with
            | .staged => { w.wall m with lit := .lit, shown := latchRows (w.wall m).staged (w.wall m).shown }
            | .failed => { w.wall m with
                lit := .dark, shown := List.replicate (w.rowTotal m) .empty, restage := true }
            | _ => w.wall m : Wall) with part := .none, staged := [], cause := none })

/-- BATCH_OPEN, BATCH_CLOSE and BATCH_EXPIRED (R103, R104): opening sets the limit timer and is refused WRONG_STATE in an open batch; closing,
refused WRONG_STATE in a closed one, and the limit's expiry, with its BATCH_EXPIRED report, close the batch. A commit that has
settled and waits only for the batch then begins STAGING at once (R102, R104, R105), with the strings that have something to show. -/
def Obligations.BatchesOpenAndClose : Prop :=
  ∀ (s : State) (dt tag x : Nat),
    let w := s.world
    let held := w.commit.state = .settling ∧ w.commit.settleTimer = none
    let rows (n : StringNo) := if (w.wall n).restage then List.range (w.rowTotal n) else w.dirty n
    let stages (n : StringNo) := (w.channel n).settings.enabled = true ∧ rows n ≠ [] ∧
      ((w.wall n).lit = .dark → w.ready n = true) ∧ (w.channel n).state ≠ .faulted ∧
      ∀ i ∈ rows n, (w.channel n).healthOf (i / (w.channel n).settings.rows + 1) ≠ .lost
    let begun (now : Nat) (t : State) : Prop :=
      t.world.commit = { w.commit with
        batchOpen := false, batchTimer := none, state := .staging, commitSeq := w.tableSeq, minutePending := false
        deadlineTimer := some (now + w.commit.settings.deadline * 1000) } ∧
      ∀ n, stages n → (t.world.wall n).part = .staging ∧
        (t.world.wall n).staged = (rows n).map fun i =>
          { row := i, rowRec := (w.view n).targets.getD i .empty, acked := false }
    (s.link.idle → w.commit.batchOpen = false →
      (∃ t, exec (.batchOpen dt tag) s = .next t ∧ s.OnlyWorld (s.time.elapsed + dt) t ∧
        t.world = { w.fresh with commit := { w.commit with
          batchOpen := true
          batchTimer := some (s.time.elapsed + dt + w.commit.settings.batchLimit * 1000000) } } ∧
        t.link = (s.link.replied (okReply 0x13 tag false .empty)).carries []) ∧
      ∃ t, exec (.batchClose dt tag) s = .next t ∧ s.OnlyWorld (s.time.elapsed + dt) t ∧ t.world = w.fresh ∧
        t.link = (s.link.replied (refusal 0x14 tag .wrongState .empty)).carries []) ∧
    (s.link.idle → w.commit.batchOpen = true →
      (∃ t, exec (.batchOpen dt tag) s = .next t ∧ s.OnlyWorld (s.time.elapsed + dt) t ∧ t.world = w.fresh ∧
        t.link = (s.link.replied (refusal 0x13 tag .wrongState .empty)).carries []) ∧
      ∃ t rs, exec (.batchClose dt tag) s = .next t ∧ s.OnlyWorld (s.time.elapsed + dt) t ∧
        ({ w with commit := { w.commit with batchOpen := false, batchTimer := none } } : World).Background t.world ∧
        (¬ held → t.world = { w.fresh with commit := { w.commit with batchOpen := false, batchTimer := none } } ∧ rs = []) ∧
        (held → (∃ n, stages n) → rs = [] ∧ begun (s.time.elapsed + dt) t) ∧
        t.link = (s.link.replied (okReply 0x14 tag false .empty)).carries rs) ∧
    (w.commit.batchTimer = some x →
      ∃ t rs, exec .batchExpired s = .next t ∧ s.OnlyWorld x t ∧
        ({ w with commit := { w.commit with batchOpen := false, batchTimer := none } } : World).Background t.world ∧
        (¬ held → t.world = { w.fresh with commit := { w.commit with batchOpen := false, batchTimer := none } } ∧ rs = []) ∧
        (held → (∃ n, stages n) → rs = [] ∧ begun (max s.time.elapsed x) t) ∧
        t.link = s.link.carries (.batchExpired (max s.time.elapsed x / 1000) w.tableSeq :: rs))

/-- COMMIT_SET (R117): each duration is taken down to a whole step and then clamped; a change sets the sweep timer to the request's elapsed
time plus the refresh step, or makes it absent for 0; timers that run keep their expiries. That a
change of any setting starts the sweep timer afresh is the model's choice (notes/assumptions/23.md).

POLICY_SET, ZONE_MAP_SET and AU_SET (R145, R146, R169): a kind's settings are taken, durations and counts clamped; CUSTOM, an unknown kind or a
priority above 3 is refused OUT_OF_RANGE, the kinds numbered as R138 and START do (the model's choice, notes/assumptions/61.md); a map of 48 platforms takes the place of the old one, and that one of
another length is MALFORMED is the model's choice (notes/assumptions/15.md); the three durations are taken down to whole steps and
clamped. Nothing else changes. -/
def Obligations.SettingsAreTaken : Prop :=
  (∀ (s : State) (dt tag : Nat) (r : CommitSetReq), s.link.idle →
    let x : CommitSettings :=
      { settle := min 2000 (r.settle / 50 * 50), deadline := max 500 (min 5000 (r.deadline / 100 * 100))
        stagger := min 200 (r.stagger / 10 * 10), batchLimit := max 1 (min 30 r.batchLimit), refresh := min 60 r.refresh
        reports := r.reports }
    ∃ t adjusted, exec (.commitSet dt tag r) s = .next t ∧ s.OnlyWorld (s.time.elapsed + dt) t ∧
      (adjusted = false ↔ x.settle = r.settle ∧ x.deadline = r.deadline ∧ x.stagger = r.stagger ∧
        x.batchLimit = r.batchLimit ∧ x.refresh = r.refresh) ∧
      t.link = (s.link.replied (okReply 0x15 tag adjusted .empty)).carries [] ∧
      t.world = if x = s.world.commit.settings then s.world.fresh
        else { s.world.fresh with commit := { s.world.commit with
          settings := x
          sweepTimer := if x.refresh = 0 then none else some (s.time.elapsed + dt + x.refresh * 1000000) } }) ∧
  ((∀ (s : State) (dt tag : Nat) (r : PolicyReq), s.link.idle →
    let p := s.world.cuePolicy
    let k : KindPolicy := { enable := r.enable, priority := r.priority }
    let cmd : Instr := .policySet dt tag r
    (6 ≤ r.kind ∨ 3 < r.priority → ∃ t, exec cmd s = .next t ∧ s.OnlyWorld (s.time.elapsed + dt) t ∧ t.world = s.world.fresh ∧
      t.link = (s.link.replied (refusal 0x18 tag .outOfRange .empty)).carries []) ∧
    (r.kind < 6 → r.priority ≤ 3 →
      ∃ t q adjusted, exec cmd s = .next t ∧ s.OnlyWorld (s.time.elapsed + dt) t ∧
        t.world = { s.world.fresh with cuePolicy := q } ∧
        t.link = (s.link.replied (okReply 0x18 tag adjusted .empty)).carries [] ∧
        (r.kind = CueKind.platformChange.code → q = { p with platformChange := k } ∧ adjusted = false) ∧
        (r.kind = CueKind.delay.code → q = { p with
            delay := k
            delayThreshold := max 1 (min 60 r.a)
            delayStep := max 1 (min 60 r.b)
            delayPeriod := max 2 (min 60 r.c)
            delayRepeats := min 255 r.d } ∧
          (adjusted = false ↔ q.delayThreshold = r.a ∧ q.delayStep = r.b ∧ q.delayPeriod = r.c ∧ q.delayRepeats = r.d)) ∧
        (r.kind = CueKind.approach.code → q = { p with
            approach := k
            approachLead := max 1 (min 15 r.a)
            approachDelay := min 600 r.b } ∧ (adjusted = false ↔ q.approachLead = r.a ∧ q.approachDelay = r.b)) ∧
        (r.kind = CueKind.boarding.code → q = { p with boarding := k } ∧ adjusted = false) ∧
        (r.kind = CueKind.cancellation.code → q = { p with cancellation := k } ∧ adjusted = false) ∧
        (r.kind = CueKind.notice.code → q = { p with notice := k } ∧ adjusted = false))) ∧
  (∀ (s : State) (dt tag : Nat) (platforms : List Zones) (concourse : Zones), s.link.idle →
    ∃ t, exec (.zoneMapSet dt tag platforms concourse) s = .next t ∧ s.OnlyWorld (s.time.elapsed + dt) t ∧
      (platforms.length = 48 → t.world = { s.world.fresh with zoneMap := platforms, concourse := concourse } ∧
        t.link = (s.link.replied (okReply 0x19 tag false .empty)).carries []) ∧
      (platforms.length ≠ 48 → t.world = s.world.fresh ∧
        t.link = (s.link.replied (refusal 0x19 tag .malformed .empty)).carries [])) ∧
  ∀ (s : State) (dt tag a b c : Nat), s.link.idle →
    let x := max 500 (min 10000 (a / 100 * 100))
    let y := max 10 (min 600 b)
    let z := max 500 (min 10000 (c / 100 * 100))
    ∃ t adjusted, exec (.auSet dt tag a b c) s = .next t ∧ s.OnlyWorld (s.time.elapsed + dt) t ∧
      t.world = { s.world.fresh with au := { s.world.fresh.au with startTimeout := x, playLimit := y, stopWait := z } } ∧
      (adjusted = false ↔ x = a ∧ y = b ∧ z = c) ∧
      t.link = (s.link.replied (okReply 0x1C tag adjusted .empty)).carries [])

/-- SWEEP_EXPIRY (R115, R116): the timer is set to its expiry plus the refresh step and the next string in round robin that is enabled and LIT
is given restage-all; where there is none, nothing more happens. -/
def Obligations.TheSweepRestagesTheNextLitString : Prop :=
  ∀ (s : State) (x : Nat), s.world.commit.sweepTimer = some x →
    let w := s.world
    let can (n : StringNo) := (w.channel n).settings.enabled = true ∧ (w.wall n).lit = .lit
    let rank (n : StringNo) : StringNo := match w.commit.sweepPos with
      | some p => n - p - 1
      | none => n
    let timed : Commit := { w.commit with sweepTimer := some (x + w.commit.settings.refresh * 1000000) }
    ((∀ n, ¬ can n) → ∃ t, exec .sweepExpiry s = .next t ∧ s.OnlyWorld x t ∧ t.link = s.link.carries [] ∧
      t.world = { w.fresh with commit := timed }) ∧
    ∀ n, can n → (∀ m, can m → rank n ≤ rank m) →
      ∃ t rs, exec .sweepExpiry s = .next t ∧ s.OnlyWorld x t ∧ t.link = s.link.carries rs ∧
        ({ w with commit := { timed with sweepPos := some n } } : World).Background t.world ∧
        (w.commit.state ≠ .quiet → rs = [] ∧
          t.world = { w.fresh with commit := { timed with sweepPos := some n } }.setWall n { w.wall n with restage := true }) ∧
        (w.commit.state = .quiet → w.commit.settings.settle ≠ 0 → rs = [] ∧
          t.world = { w.fresh with commit := { timed with
              sweepPos := some n
              state := .settling
              settleTimer := some (max s.time.elapsed x + w.commit.settings.settle * 1000) } }.setWall n
            { w.wall n with restage := true })

/-! ## The string links -/

/-- STRING_SET (R120, R121, R114): a string, a module or row count, a divisor, a group or a flow mode outside its range is refused
OUT_OF_RANGE, and in PAUSE_CODES a pause code equal to the resume code CONFLICT. Settings in their ranges are taken, timeout and retry limit clamped; the channel starts afresh, its counts and
module records cleared, its poll timer two seconds on. The string is blanked: DARK, every shown row EMPTY, restage-all set,
with a STRING_STATE report where it was LIT. The last clause is for a wall that nothing can stage within the step: an
open batch, or a settle time that is not 0 and no minute mark waiting. -/
def Obligations.StringSetResetsTheChannel : Prop :=
  (∀ (s : State) (dt tag : Nat) (r : StringSetReq), s.link.idle →
    let bad := r.string = 0 ∨ 16 < r.string ∨ r.modules = 0 ∨ 8 < r.modules ∨ r.rows = 0 ∨ 6 < r.rows ∨ r.divI < 4 ∨
      2047 < r.divI ∨ 7 < r.divF ∨ 1 < r.group ∨ 2 < r.flow
    let refusedWith (status : Status) : Prop := ∃ t, exec (.stringSet dt tag r) s = .next t ∧
      s.OnlyWorld (s.time.elapsed + dt) t ∧ t.world = s.world.fresh ∧
      t.link = (s.link.replied (refusal 0x16 tag status .empty)).carries []
    (bad → refusedWith .outOfRange) ∧
    (¬ bad → r.flow = FlowMode.code .pauseCodes → r.pause = r.resume → refusedWith .conflict)) ∧
  ∀ (s : State) (dt tag : Nat) (n : StringNo) (r : StringSetReq) (group : Group) (flow : FlowMode), s.link.idle →
    r.string = n.val + 1 → r.group = group.code → r.flow = flow.code →
    1 ≤ r.modules → r.modules ≤ 8 → 1 ≤ r.rows → r.rows ≤ 6 → 4 ≤ r.divI → r.divI ≤ 2047 → r.divF ≤ 7 →
    ¬ (flow = .pauseCodes ∧ r.pause = r.resume) →
    let now := s.time.elapsed + dt
    let w := s.world
    let c := w.channel n
    let timeout := max 5 (min 200 r.timeout)
    let retries := min 3 r.retries
    let still := w.commit.batchOpen = true ∨ (w.commit.settings.settle ≠ 0 ∧ w.commit.minutePending = false)
    ∃ t rs, exec (.stringSet dt tag r) s = .next t ∧ s.OnlyWorld now t ∧
      (w.setChannel n { c with
        settings :=
          { enabled := r.enable, divI := r.divI, divF := r.divF, modules := r.modules, rows := r.rows, group := group
            flow := flow, pause := r.pause, resume := r.resume, timeout := timeout, retries := retries }
        flowStopped := false
        faultTimer := none
        pollTimer := if r.enable then some (now + 2000000) else none
        pollPtr := 1
        timedOut := 0
        voids := 0
        rejects := 0
        modules := Vector.replicate 8 { health := .ok, missed := 0, flags := noFlags, reject := false } }).Background t.world ∧
      (c.test.isSome = true → Report.linkTestResult (n.val + 1) .abandoned 0 ∈ rs) ∧
      ((w.wall n).lit = .lit → Report.stringState (n.val + 1) .dark .stringSet w.commit.generation ∈ rs) ∧
      t.link = (s.link.replied (okReply 0x16 tag (timeout != r.timeout || retries != r.retries) .empty)).carries rs ∧
      (still → (t.world.channel n).state = (if r.enable then .ready else .off) ∧ (t.world.channel n).queue = [] ∧
        (t.world.channel n).exchange = none ∧ (t.world.wall n).lit = .dark ∧ (t.world.wall n).restage = true ∧
        (t.world.wall n).shown = List.replicate (r.modules * r.rows) .empty ∧
        t.world.latch n = (w.latch n).ask .blank false now)

/-- POLL_TICK, FRAME_BEGIN and FRAME_SENT (R122, R124, R125, R126, R133): a tick sets the timer to its expiry plus two seconds and places a
POLL in an empty queue, which the queue of a channel with an exchange is not; the head frame of a READY channel begins once the
line has been quiet for two byte times, or the channel enters HELD where its flow is stopped; after its last character the
reply timer runs. That byte times are taken up to a whole microsecond, and that a line on which nothing has been heard is quiet,
is the model's choice (notes/assumptions/25.md). A frame that begins stays at the head of the queue, one attempt more begun, until
its exchange ends: so the model reads R124 with R128 and R129 (notes/assumptions/35.md).

LINK_TEST and LINK_TEST_RESULT (R136): a string outside 1..16 is refused OUT_OF_RANGE; a test is refused WRONG_STATE while one is in
progress or the string takes part in a commit; it waits for an exchange on the line and runs at once otherwise. It ends when sixteen
characters have come back, or two byte times after the sixteenth is due, which is sixteen byte times from its beginning (the model's
reading, notes/assumptions/52.md). Its result is SAME exactly when the sixteen characters of the pattern came back, with the number
that matched before the first difference, which a character with a framing error is (the model's choice, notes/assumptions/42.md); a
channel HELD during the test is READY after it where its queue is empty, and begins its head frame where its flow has been released.
A silence ends the test where the wait's end lies in it (notes/assumptions/1.md); with no test running only the time passes. -/
def Obligations.FramesAndLinkTestsRun : Prop :=
  (∀ (s : State) (n : StringNo) (x : Nat),
    let w := s.world
    let c := w.channel n
    let bytes (k : Nat) := (k * (8 * c.settings.divI + c.settings.divF) + 3) / 4
    let quiet := match c.lastChar with
      | none => 0
      | some y => y + bytes 2
    let now := max s.time.elapsed quiet
    (c.pollTimer = some x →
      ∃ t, exec (.pollTick n) s = .next t ∧ s.OnlyWorld x t ∧ t.link = s.link.carries [] ∧
        t.world = w.fresh.setChannel n
          (if c.queue = [] ∧ c.test = none ∧ c.state ≠ .faulted then { c with
            pollTimer := some (x + 2000000)
            queue := [{ frame := .poll c.pollPtr, attempts := 0 }]
            pollPtr := if c.pollPtr < c.settings.modules then c.pollPtr + 1 else 1 }
          else { c with pollTimer := some (x + 2000000) })) ∧
    (∀ q rest, c.state = .ready → c.queue = q :: rest → c.testing = false →
      ∃ t, exec (.frameBegin n) s = .next t ∧ s.OnlyWorld quiet t ∧ t.link = s.link.carries [] ∧
        t.world = w.fresh.setChannel n
          (if c.stopped = true then { c with state := .held, holdTimer := some (now + 1000000) }
          else { c with
            state := .sending
            queue := { q with attempts := q.attempts + 1 } :: rest
            holdTimer := none
            exchange := some {
              frame := q.frame, attempt := q.attempts + 1, orphan := false
              sendEnds := some (now + bytes (frameBytes q.frame).length), replyTimer := none, reply := [] } })) ∧
    ∀ y, c.state = .sending → c.exchange = some y → y.sendEnds = some x →
      ∃ t, exec (.frameSent n) s = .next t ∧ s.OnlyWorld x t ∧ t.link = s.link.carries [] ∧
        t.world = w.fresh.setChannel n { c with
          state := .waiting
          exchange := some { y with
            sendEnds := none, replyTimer := some (max s.time.elapsed x + c.settings.timeout * 1000), reply := [] } }) ∧
  (∀ (s : State) (dt tag : Nat) (n : StringNo) (chars : List RxChar),
    let now := s.time.elapsed + dt
    let w := s.world
    let c := w.channel n
    let bytes (k : Nat) := (k * (8 * c.settings.divI + c.settings.divF) + 3) / 4
    (s.link.idle → (c.test ≠ none ∨ (w.wall n).part ≠ .none) →
      ∃ t, exec (.linkTest dt tag (n.val + 1)) s = .next t ∧ s.OnlyWorld now t ∧ t.world = w.fresh ∧
        t.link = (s.link.replied (refusal 0x17 tag .wrongState .empty)).carries []) ∧
    (s.link.idle → c.test = none → (w.wall n).part = .none →
      ∃ t, exec (.linkTest dt tag (n.val + 1)) s = .next t ∧ s.OnlyWorld now t ∧
        t.world = w.fresh.setChannel n { c with
          test := some (if c.state = .sending ∨ c.state = .waiting then .waiting else .running [] (now + bytes 18)) } ∧
        t.link = (s.link.replied (okReply 0x17 tag false .empty)).carries []) ∧
    let ends (cmd : Instr) (target : Nat) (got : List RxChar) : Prop :=
      let now := max s.time.elapsed target
      ∃ t result matched, exec cmd s = .next t ∧ s.OnlyWorld target t ∧
        t.world = w.fresh.setChannel n (c.endTest now) ∧ (c.state ≠ .held → c.endTest now = { c with test := none }) ∧
        (c.state = .held → c.queue = [] → c.endTest now = { c with test := none, state := .ready, holdTimer := none }) ∧
        (c.state = .held → c.queue ≠ [] → c.stopped = true → c.endTest now = { c with test := none }) ∧
        (∀ q rest, c.state = .held → c.queue = q :: rest → c.stopped = false → c.endTest now = { c with
          test := none
          state := .sending
          queue := { q with attempts := q.attempts + 1 } :: rest
          holdTimer := none
          exchange := some {
            frame := q.frame, attempt := q.attempts + 1, orphan := false
            sendEnds := some (now + bytes (frameBytes q.frame).length), replyTimer := none, reply := [] } }) ∧
        (result = .same ∨ result = .mismatch) ∧
        (result = .same ↔ got = testPattern.map fun b => { byte := b, framed := true }) ∧
        matched ≤ 16 ∧ got.take matched = (testPattern.take matched).map (fun b => { byte := b, framed := true }) ∧
        (matched < 16 → ∀ x ∈ got[matched]?, some x ≠ testPattern[matched]?.map fun b => { byte := b, framed := true }) ∧
        t.link = s.link.carries [.linkTestResult (n.val + 1) result matched]
    (c.testing = false →
      ∃ t, exec (.linkTestResult dt n chars) s = .next t ∧ s.OnlyWorld now t ∧ t.world = w.fresh ∧ t.link = s.link.carries []) ∧
    ∀ received waitEnds, c.test = some (.running received waitEnds) → received.length ≤ 16 →
      (chars = [] → waitEnds ≤ now → ends (.linkTestResult dt n chars) waitEnds received) ∧
      (chars = [] → now < waitEnds →
        ∃ t, exec (.linkTestResult dt n chars) s = .next t ∧ s.OnlyWorld now t ∧ t.world = w.fresh ∧
          t.link = s.link.carries []) ∧
      (chars ≠ [] → 16 ≤ received.length + chars.length →
        ends (.linkTestResult dt n chars) now ((received ++ chars).take 16)) ∧
      (chars ≠ [] → received.length + chars.length < 16 →
        ∃ t, exec (.linkTestResult dt n chars) s = .next t ∧ s.OnlyWorld now t ∧ t.link = s.link.carries [] ∧
          t.world = w.fresh.setChannel n { c with test := some (.running (received ++ chars) waitEnds) })) ∧
  ∀ (s : State) (dt tag k : Nat), s.link.idle → k = 0 ∨ 16 < k →
    ∃ t, exec (.linkTest dt tag k) s = .next t ∧ s.OnlyWorld (s.time.elapsed + dt) t ∧ t.world = s.world.fresh ∧
      t.link = (s.link.replied (refusal 0x17 tag .outOfRange .empty)).carries []

/-- REPLY_TIMEOUT, REPLY_GAP, VOID_REPLY, and a reply whose header or rows are not the frame's (R108, R127, R128, R130, R131): the attempt
fails and is counted, as a timeout or a void reply. Up to the retry limit the frame stays at the head of the queue for its next
attempt; beyond it the exchange is given up: it ends, its frame leaves the queue, the module has missed one more exchange, SUSPECT at
one or two and LOST at three, and a participant whose staged row it was fails with cause GIVEN_UP. An orphan exchange just ends. Its
frame stands at the head of the queue until then (notes/assumptions/35.md).

R127, character by character: the first one stops the reply timer, and each is kept until the reply has the length its header
states. One without its stop bit, one that disagrees with the module, the kind, the length or the rows that the frame asks for, and
a last one behind which the check is wrong, or the result is neither OK nor REJECT, makes the reply void; so does a gap, at
the first whole microsecond at which more than two byte times have passed since the last character. With no reply timer, or no reply begun, there is no timeout and no gap.
These are for characters that are no flow codes in PAUSE_CODES. The model's: whole replies as commands (notes/assumptions/34.md), a header or
row judged at its first wrong character (notes/assumptions/62.md), rounding (notes/assumptions/25.md), the unknown result (notes/assumptions/53.md). -/
def Obligations.AFailedAttemptIsRetriedOrGivenUp : Prop :=
  ∀ (s : State) (dt : Nat) (n : StringNo) (x : Exchange),
    let now := s.time.elapsed + dt
    let w := s.world
    let c := w.channel n
    c.state = .waiting → c.exchange = some x → c.testing = false →
    let void := min 65535 (c.voids + 1)
    let outcome (cmd : Instr) (target : Nat) (d : Channel) : Prop :=
      (x.orphan = true → ∃ t, exec cmd s = .next t ∧ s.OnlyWorld target t ∧ t.link = s.link.carries [] ∧
        t.world = w.fresh.setChannel n (d.endExchange (max s.time.elapsed target))) ∧
      (x.orphan = false → x.attempt ≤ c.settings.retries →
        ∃ t, exec cmd s = .next t ∧ s.OnlyWorld target t ∧ t.link = s.link.carries [] ∧
          t.world = w.fresh.setChannel n { d with state := .ready, exchange := none }) ∧
      (x.orphan = false → c.settings.retries < x.attempt →
        ∃ t rs, exec cmd s = .next t ∧ s.OnlyWorld target t ∧ t.link = s.link.carries rs ∧
          (w.setChannel n (d.updateModule x.frame.moduleNo fun m => { m with
            missed := min 3 (m.missed + 1)
            health := if m.missed + 1 ≤ 2 then .suspect else .lost })).Background t.world ∧
          (t.world.channel n).state = .ready ∧ (t.world.channel n).exchange = none ∧
          (∀ q ∈ (t.world.channel n).queue, q.attempts = 0 ∨ q ∈ c.queue.tail) ∧
          ∀ m mr row rec, x.frame = .stageRow m mr row rec → w.commit.state = .staging → (w.wall n).part = .staging →
            (w.wall n).staged.any (fun y => y.row == row) = true →
            t.world.wall n = { w.wall n with part := .failed, restage := true, cause := some .givenUp })
    let failed : Channel := { c with voids := void, lastChar := some now }
    let asked : List Byte := match x.frame with
      | .stageRow m mr row _ => le 1 m ++ [0x81, 3, 0] ++ le 1 mr ++ le 1 row
      | .poll m => le 1 m ++ [0x82, 1, 0]
    (∀ y, x.replyTimer = some y → outcome (.replyTimeout n) y { c with timedOut := min 65535 (c.timedOut + 1) }) ∧
    (x.replyTimer = none → exec (.replyTimeout n) s = .next s) ∧
    (∀ y, x.reply ≠ [] → c.lastChar = some y →
      y + 2 * (8 * c.settings.divI + c.settings.divF) / 4 + 1 ≤ now →
      outcome (.replyGap dt n) (y + 2 * (8 * c.settings.divI + c.settings.divF) / 4 + 1) { c with voids := void }) ∧
    (x.reply = [] ∨ (∀ y, c.lastChar = some y → now < y + 2 * (8 * c.settings.divI + c.settings.divF) / 4 + 1) →
      ∃ t, exec (.replyGap dt n) s = .next t ∧ s.OnlyWorld now t ∧ t.world = w.fresh ∧ t.link = s.link.carries []) ∧
    (∀ char : RxChar, ¬ (c.settings.flow = .pauseCodes ∧ (char.byte = c.settings.pause ∨ char.byte = c.settings.resume)) →
      let got := x.reply ++ [char.byte]
      let voided := outcome (.voidReply { dt := dt, chars := [char] } n) now failed
      (char.framed = false → voided) ∧
      (got.take asked.length ≠ asked.take got.length → voided) ∧
      (got.length = asked.length + 3 →
        (checkBytes (got.take (asked.length + 1)) ≠ got.drop (asked.length + 1) → voided) ∧
        ∀ result, x.frame.isStage = true → got[asked.length]? = some result → result ≠ 0 → result ≠ 1 → voided) ∧
      (char.framed = true → got.take asked.length = asked.take got.length → got.length < asked.length + 3 →
        ∃ t, exec (.voidReply { dt := dt, chars := [char] } n) s = .next t ∧ s.OnlyWorld now t ∧ t.link = s.link.carries [] ∧
          t.world = w.fresh.setChannel n { c with
            lastChar := some now, exchange := some { x with replyTimer := none, reply := got } })) ∧
    (∀ m mr row reject, (∀ rec, x.frame ≠ .stageRow m mr row rec) →
      outcome (.ackStage dt n m mr row reject) now failed) ∧
    ∀ m flags, x.frame ≠ .poll m → outcome (.status dt n m flags) now failed

/-- ACK_STAGE (R108, R127, R129, R131, R132): a good acknowledgement ends the exchange, whose frame leaves the queue (R124,
notes/assumptions/35.md), with the module OK and nothing missed. Accepted, its row
is acknowledged, and a string all of whose staged rows are becomes STAGED; rejected, the reject is counted and marked (the
count stopping at 65,535 is the model's choice, notes/assumptions/69.md), and
the string fails with cause REJECTED, its queued rows discarded. Outside WAITING it is noise. A good reply received character by
character, none of them a flow code, does what its command does: a command stands for the end of a whole reply (the model's choice,
notes/assumptions/34.md).

STATUS (R127, R129, R131, R132, R116): a good STATUS to a POLL ends the exchange with the module OK and its flags kept; CONTENT_LOST, or a
module back from LOST, sets the string's restage-all. The last clause is for a wall that does not stage within the step. -/
def Obligations.RepliesStageRowsAndKeepFlags : Prop :=
  (∀ (s : State) (dt : Nat) (n : StringNo) (m mr row : Nat),
    let now := s.time.elapsed + dt
    let w := s.world
    let c := w.channel n
    (c.state ≠ .waiting → ∀ reject,
      ∃ t, exec (.ackStage dt n m mr row reject) s = .next t ∧ s.OnlyWorld now t ∧ t.link = s.link.carries [] ∧
        t.world = w.fresh.setChannel n
          (if (c.state = .ready ∨ c.state = .held) ∧ c.testing = false then { c with lastChar := some now } else c)) ∧
    (∀ x rec reject, c.state = .waiting → c.testing = false → c.exchange = some x → x.frame = .stageRow m mr row rec →
      x.reply = [] → m < 256 → mr < 256 → row < 256 →
      let bytes := stringFrame m 0x81 (le 1 mr ++ le 1 row ++ le 1 (if reject then 1 else 0))
      (c.settings.flow = .pauseCodes → c.settings.pause ∉ bytes ∧ c.settings.resume ∉ bytes) →
      ∃ t, exec (.voidReply { dt := dt, chars := arriving bytes } n) s = .next t ∧ exec (.ackStage dt n m mr row reject) s = .next t) ∧
    ∀ x rec, c.state = .waiting → c.testing = false → c.exchange = some x → x.frame = .stageRow m mr row rec → x.orphan = false →
      w.commit.state = .staging → (w.wall n).part = .staging →
      (∃ t rs, exec (.ackStage dt n m mr row false) s = .next t ∧ s.OnlyWorld now t ∧ t.link = s.link.carries rs ∧
        (w.setChannel n ({ c with lastChar := some now }.updateModule m fun r => { r with
          health := .ok, missed := 0, reject := false })).Background t.world ∧
        (t.world.channel n).state = .ready ∧ (t.world.channel n).exchange = none ∧ (t.world.channel n).queue = c.queue.tail ∧
        (let staged := (w.wall n).staged.map fun y => if y.row = row then { y with acked := true } else y
        t.world.wall n = { w.wall n with
          staged := staged
          part := if staged.all (·.acked) = true then .staged else .staging
          restage := (w.wall n).restage || (c.moduleRec m).health == .lost })) ∧
      ((w.wall n).staged.any (fun y => y.row == row) = true →
        ∃ t rs, exec (.ackStage dt n m mr row true) s = .next t ∧ s.OnlyWorld now t ∧ t.link = s.link.carries rs ∧
          (w.setChannel n ({ c with lastChar := some now, rejects := min 65535 (c.rejects + 1) }.updateModule m fun r =>
            { r with health := .ok, missed := 0, reject := true })).Background t.world ∧
          (t.world.channel n).state = .ready ∧ (t.world.channel n).exchange = none ∧
          (t.world.channel n).queue = c.queue.tail.filter (fun q => !q.frame.isStage) ∧
          t.world.wall n = { w.wall n with part := .failed, restage := true, cause := some .rejected })) ∧
  (∀ (s : State) (dt : Nat) (n : StringNo) (m : Nat) (flags : ModuleFlags),
    let now := s.time.elapsed + dt
    let w := s.world
    let c := w.channel n
    (c.state ≠ .waiting →
      ∃ t, exec (.status dt n m flags) s = .next t ∧ s.OnlyWorld now t ∧ t.link = s.link.carries [] ∧
        t.world = w.fresh.setChannel n
          (if (c.state = .ready ∨ c.state = .held) ∧ c.testing = false then { c with lastChar := some now } else c)) ∧
    (∀ x, c.state = .waiting → c.testing = false → c.exchange = some x → x.frame = .poll m → x.reply = [] → m < 256 →
      let bit (b : Bool) (k : Nat) : Nat := if b then k else 0
      let bytes := stringFrame m 0x82
        (le 1 (bit flags.contentLost 1 + bit flags.lampFault 2 + bit flags.overheat 4 + bit flags.mismatch 8))
      (c.settings.flow = .pauseCodes → c.settings.pause ∉ bytes ∧ c.settings.resume ∉ bytes) →
      ∃ t, exec (.voidReply { dt := dt, chars := arriving bytes } n) s = .next t ∧ exec (.status dt n m flags) s = .next t) ∧
    ∀ x, c.state = .waiting → c.testing = false → c.exchange = some x → x.frame = .poll m →
      ∃ t rs, exec (.status dt n m flags) s = .next t ∧ s.OnlyWorld now t ∧ t.link = s.link.carries rs ∧
        (w.setChannel n ({ c with lastChar := some now }.updateModule m fun r => { r with
          health := .ok, missed := 0, flags := flags })).Background t.world ∧
        (w.commit.state ≠ .quiet ∨ w.commit.settings.settle ≠ 0 →
          (t.world.channel n).state = .ready ∧ (t.world.channel n).exchange = none ∧ (t.world.channel n).queue = c.queue.tail ∧
          (∀ k, k ≠ n → t.world.wall k = w.wall k ∧ t.world.channel k = w.channel k) ∧
          t.world.wall n = { w.wall n with
            restage := (w.wall n).restage || flags.contentLost || (c.moduleRec m).health == .lost }))

/-- PAUSE_CODE, RESUME_CODE and BUSY_RETURN (R133): a pause code stops the flow of a channel in PAUSE_CODES that listens, and a resume code or
the release of BSY in BUSY_LINE lets the frame that a HELD channel waits with begin at once. In another flow mode a code is an ordinary
character, one of the reply in WAITING (R127), and BSY releases no channel that a pause code holds; during a link test neither codes nor
BSY act (R136). That PAUSE_CODE and RESUME_CODE are one character of that value, which VOID_REPLY can bring as well, is the model's choice
(notes/assumptions/34.md). That the frame's end is taken up to a whole microsecond is the model's
reading (notes/assumptions/25.md), and that it stays at the head of the queue until its exchange ends is its choice in R124
(notes/assumptions/35.md).

STALLED and RECOVERED (R134, R135, R108): when the hold timer expires the channel enters FAULTED for five seconds with its queue discarded,
and a string in part STAGING fails with cause FAULTED, any other string's part staying; when the fault timer expires it is READY again with its flow
released and a POLL to the module of the poll pointer placed. Each is reported in STRING_STATE. A link test that runs goes on, and
one that waited for an exchange begins, its frame being discarded (R136); that it waits 18 byte times for its characters is the model's
reading (notes/assumptions/52.md), and so is their rounding up (notes/assumptions/25.md). -/
def Obligations.FlowHoldsStallsAndRecovers : Prop :=
  (∀ (s : State) (dt : Nat) (n : StringNo),
    let now := s.time.elapsed + dt
    let w := s.world
    let c := w.channel n
    let listens := (c.state = .ready ∨ c.state = .waiting ∨ c.state = .held) ∧ c.testing = false
    let heard : Channel := if listens then { c with lastChar := some now } else c
    let sent (d : Channel) (q : QueuedFrame) (rest : List QueuedFrame) : Channel := { d with
      state := .sending
      queue := { q with attempts := q.attempts + 1 } :: rest
      holdTimer := none
      exchange := some {
        frame := q.frame, attempt := q.attempts + 1, orphan := false
        sendEnds := some (now + ((frameBytes q.frame).length * (8 * c.settings.divI + c.settings.divF) + 3) / 4)
        replyTimer := none
        reply := [] } }
    let leaves (cmd : Instr) (d : Channel) : Prop :=
      ∃ t, exec cmd s = .next t ∧ s.OnlyWorld now t ∧ t.link = s.link.carries [] ∧ t.world = w.fresh.setChannel n d
    (c.settings.flow = .pauseCodes → listens → leaves (.pauseCode dt n) { heard with flowStopped := true }) ∧
    (¬ listens ∨ c.settings.flow ≠ .pauseCodes ∧ c.state ≠ .waiting →
      leaves (.pauseCode dt n) heard ∧ leaves (.resumeCode dt n) heard) ∧
    (c.settings.flow ≠ .pauseCodes →
      exec (.pauseCode dt n) s = exec (.voidReply { dt := dt, chars := [{ byte := c.settings.pause, framed := true }] } n) s ∧
      exec (.resumeCode dt n) s = exec (.voidReply { dt := dt, chars := [{ byte := c.settings.resume, framed := true }] } n) s) ∧
    (c.settings.flow = .pauseCodes → c.settings.pause ≠ c.settings.resume → ∀ framed,
      exec (.voidReply { dt := dt, chars := [{ byte := c.settings.pause, framed := framed }] } n) s = exec (.pauseCode dt n) s ∧
      exec (.voidReply { dt := dt, chars := [{ byte := c.settings.resume, framed := framed }] } n) s = exec (.resumeCode dt n) s) ∧
    (c.settings.flow = .pauseCodes → listens → c.state ≠ .held → leaves (.resumeCode dt n) { heard with flowStopped := false }) ∧
    (∀ q rest, c.settings.flow = .pauseCodes → listens → c.state = .held → c.queue = q :: rest →
      leaves (.resumeCode dt n) (sent { heard with flowStopped := false } q rest)) ∧
    (c.state ≠ .held ∨ c.testing = true → ∀ asserted, leaves (.busyReturn dt n asserted) { c with busy := asserted }) ∧
    (c.settings.flow = .busyLine → leaves (.busyReturn dt n true) { c with busy := true }) ∧
    (c.settings.flow = .pauseCodes → c.flowStopped = true → ∀ asserted,
      leaves (.busyReturn dt n asserted) { c with busy := asserted }) ∧
    ∀ q rest, c.settings.flow = .busyLine → c.state = .held → c.queue = q :: rest → c.testing = false →
      leaves (.busyReturn dt n false) (sent { c with busy := false } q rest)) ∧
  (∀ (s : State) (n : StringNo) (x : Nat),
    let w := s.world
    let c := w.channel n
    let now := max s.time.elapsed x
    (c.holdTimer = some x → c.state = .held → w.commit.state ≠ .quiet ∨ w.commit.settings.settle ≠ 0 →
      ((w.wall n).part = .staging → w.commit.state = .staging) →
      (w.commit.state = .staging → ∃ m, (w.wall m).part = .staging) →
      ∃ t rs, exec (.stalled n) s = .next t ∧ s.OnlyWorld x t ∧ t.link = s.link.carries rs ∧
        Report.stringState (n.val + 1) (w.wall n).lit .stalled w.commit.generation ∈ rs ∧
        (w.setChannel n { c with faultTimer := some (now + 5000000) }).Background t.world ∧
        (t.world.channel n).state = .faulted ∧ (t.world.channel n).queue = [] ∧ (t.world.channel n).holdTimer = none ∧
        (t.world.channel n).exchange = c.exchange ∧
        (t.world.channel n).test = (if c.test = some .waiting then
          some (.running [] (now + (18 * (8 * c.settings.divI + c.settings.divF) + 3) / 4)) else c.test) ∧
        t.world.wall n = if (w.wall n).part = .staging then
          { w.wall n with part := .failed, restage := true, cause := some .faulted } else w.wall n) ∧
    (c.faultTimer = some x → c.state = .faulted → w.commit.state ≠ .quiet ∨ w.commit.settings.settle ≠ 0 →
      ∃ t, exec (.recovered n) s = .next t ∧ s.OnlyWorld x t ∧
        t.link = s.link.carries [.stringState (n.val + 1) (w.wall n).lit .recovered w.commit.generation] ∧
        t.world.channel n = { c with
          state := .ready
          faultTimer := none
          flowStopped := false
          queue := c.queue ++ [{ frame := .poll c.pollPtr, attempts := 0 }]
          pollPtr := if c.pollPtr < c.settings.modules then c.pollPtr + 1 else 1 } ∧
        (∀ k, t.world.wall k = w.wall k) ∧ ∀ k, k ≠ n → t.world.channel k = w.channel k))

/-! ## Cues -/

/-- CUE_PUT (R154): a kind, a mode, a subject of 0, zones, a priority, a line or a lead time out of range is refused OUT_OF_RANGE; then a
subject that its table does not hold NOT_FOUND, a cue of that subject and kind CONFLICT, and a full table TABLE_FULL.

CUE_PUT (R138, R139, R140, R142, R154): a taken put makes a host cue in the lowest free slot with the next handle. A triggered cue, or an ANCHORED
one whose anchor has not come, is ARMED; any other enters PENDING_WALL under the mark of its subject, and where wall_seq is not
earlier than the mark it is QUEUED at once. The last clause is for an arbiter that cannot start a cue. That the `seq` of an
ARMED cue is 0 is the model's choice (notes/assumptions/37.md). -/
def Obligations.CuePutMakesAHostCue : Prop :=
  (∀ (s : State) (dt tag : Nat) (r : CuePutReq), s.link.idle →
    let w := s.world
    let refusedWith (status : Status) : Prop := ∃ t, exec (.cuePut dt tag r) s = .next t ∧
      s.OnlyWorld (s.time.elapsed + dt) t ∧ t.world = w.fresh ∧
      t.link = (s.link.replied (refusal 0x1A tag status .empty)).carries []
    (6 < r.kind ∨ 4 < r.mode → refusedWith .outOfRange) ∧
    ∀ (kind : CueKind) (mode : CueMode), r.kind = kind.code → r.mode = mode.code →
      let bad := r.subject = 0 ∨ r.zones = 0 ∨ 3 < r.priority ∨ (mode.isTriggered = true ∧ (r.line = 0 ∨ 12 < r.line)) ∨
        (mode = .anchored ∧ (kind = .notice ∨ kind = .custom ∨ r.leadMin = 0 ∨ 15 < r.leadMin))
      let stored := match kind with
        | .notice => ∃ n ∈ w.notices, n.id = r.subject
        | .custom => ∃ x ∈ w.texts, x.index = r.subject
        | _ => ∃ x ∈ w.services, x.code = r.subject
      let present := ∃ c ∈ w.cues, c.kind = kind ∧ c.subject = r.subject
      (bad → refusedWith .outOfRange) ∧
      (¬ bad → ¬ stored → refusedWith .notFound) ∧
      (¬ bad → stored → present → refusedWith .conflict) ∧
      (¬ bad → stored → ¬ present → (∀ slot < 32, ∃ c ∈ w.cues, c.slot = slot) → refusedWith .tableFull)) ∧
  ∀ (s : State) (dt tag slot : Nat) (r : CuePutReq) (kind : CueKind) (mode : CueMode), s.link.idle →
    r.kind = kind.code → r.mode = mode.code → cuePutBad r kind mode = false → s.world.hasSubject kind r.subject = true →
    s.world.cueOf kind r.subject = none → s.world.freeSlot = some slot →
    let now := s.time.elapsed + dt
    let e := (s.after dt).env
    let w := s.world
    let h := w.handleToGive
    let cue : Cue :=
      { handle := h, slot := slot, origin := .host, kind := kind, subject := r.subject, mode := mode
        line := if mode.isTriggered then some r.line else none
        delayS := if mode.isTriggered then some (min 600 r.delayS) else none
        periodS := if mode.isPeriodic then some (max 30 (min 3600 r.periodS)) else none
        repeatsLeft := if mode.isPeriodic then some r.repeats else none
        leadMin := if mode = .anchored then some r.leadMin else none
        zones := r.zones, priority := r.priority, seq := 0
        oldPlatform := if kind = .platformChange then (w.service r.subject).bind (fun x => x.prev.map (·.1)) else none
        timer := none, queuedAt := none, startedDelay := none, preempted := false, state := .armed, subjectGone := false
        aged := 0 }
    let adjusted := (mode.isTriggered && decide (600 < r.delayS)) ||
      (mode.isPeriodic && (decide (r.periodS < 30) || decide (3600 < r.periodS)))
    let mark : Seq := match kind with
      | .custom => w.tableSeq
      | _ => (w.subjectRev cue).getD 0
    let cmd : Instr := .cuePut dt tag r
    let holds (c : Cue) : Prop := ∃ t, exec cmd s = .next t ∧ s.OnlyWorld now t ∧
      t.world = { w.fresh with nextHandle := (if h < 65535 then h + 1 else 1), cues := insertCue c w.cues } ∧
      t.link = (s.link.replied (okReply 0x1A tag adjusted (.handle h))).carries []
    let waits := mode.isTriggered = true ∨ (mode = .anchored ∧ w.anchorDue cue e = false)
    (∃ t rs, exec cmd s = .next t ∧ s.OnlyWorld now t ∧ w.Background t.world ∧ w.Lives e t.world ∧
      t.link = (s.link.replied (okReply 0x1A tag adjusted (.handle h))).carries rs) ∧
    (waits → holds cue) ∧
    (¬ waits → notEarlier w.commit.wallSeq mark = false → holds { cue with state := .pendingWall, seq := mark }) ∧
    (¬ waits → notEarlier w.commit.wallSeq mark = true →
      (w.au.available = false ∨ ∀ i : Fin 4, w.au.channels[i].phase ≠ .free) →
      holds { cue with state := .queued, seq := mark, queuedAt := some now })

/-- CUE_CANCEL (R155): a handle of 0 is refused OUT_OF_RANGE and one no cue holds NOT_FOUND; otherwise the cue leaves the table with CUE_STATE
WITHDRAWN, reason HOST_CANCEL, and a play of it is asked to stop. An automatic PLATFORM_CHANGE cue is also told to the Service
Table, so only the general clause covers it. -/
def Obligations.CueCancelWithdrawsTheCue : Prop :=
  ∀ (s : State) (dt tag handle : Nat), s.link.idle →
    let now := s.time.elapsed + dt
    let w := s.world
    let cmd : Instr := .cueCancel dt tag handle
    (handle = 0 → ∃ t, exec cmd s = .next t ∧ s.OnlyWorld now t ∧ t.world = w.fresh ∧
      t.link = (s.link.replied (refusal 0x1B tag .outOfRange .empty)).carries []) ∧
    (handle ≠ 0 → w.cue handle = none → ∃ t, exec cmd s = .next t ∧ s.OnlyWorld now t ∧ t.world = w.fresh ∧
      t.link = (s.link.replied (refusal 0x1B tag .notFound .empty)).carries []) ∧
    ∀ c, handle ≠ 0 → w.cue handle = some c →
      let told : Report := .cueState handle .withdrawnHostCancel c.origin c.kind c.subject (now / 1000)
      (∃ t rs, exec cmd s = .next t ∧ s.OnlyWorld now t ∧ w.Background t.world ∧
        t.link = (s.link.replied (okReply 0x1B tag false .empty)).carries (told :: rs)) ∧
      (¬ (c.origin = .auto ∧ c.kind = .platformChange) →
        (c.state.isPending = true ∨ w.playOf handle = none →
          ∃ t, exec cmd s = .next t ∧ s.OnlyWorld now t ∧ t.world = { w.fresh with cues := w.cues.filter (·.slot != c.slot) } ∧
            t.link = (s.link.replied (okReply 0x1B tag false .empty)).carries [told]) ∧
        ∀ i p, c.state.isPending = false → w.playOf handle = some i → w.au.channels[i].play = some p →
          w.au.channels[i].phase = .starting ∨ w.au.channels[i].phase = .playing →
          ∃ t, exec cmd s = .next t ∧ s.OnlyWorld now t ∧
            t.world = { w.fresh with
              cues := w.cues.filter (·.slot != c.slot)
              au := { w.fresh.au with
                channels := w.au.channels.set i
                  { phase := .stopping, play := some p, timer := some (now + w.au.stopWait * 1000) }
                made := [.stop p.handle] } } ∧
            t.link = (s.link.replied (okReply 0x1B tag false .empty)).carries [told])

/-- CUE_DELAY_EXPIRY and CUE_PERIOD_EXPIRY (R141, R142, R146): at its timer a DELAYING cue, or an ARMED periodic one, enters PENDING_WALL under the mark of
its subject with its zones computed again where it is automatic, and is QUEUED at once where wall_seq is not earlier than the
mark. That the zones of a cue that comes through DELAYING are computed again, and that it loses `queued_at`, is the model's choice
(notes/assumptions/20.md). The last clause of each is for an arbiter that cannot start a cue. -/
def Obligations.ACueFallsDueAtItsTimer : Prop :=
  ∀ (s : State) (slot : Fin 32) (c : Cue) (x : Nat), s.world.cueAt slot.val = some c → c.timer = some x →
    let w := s.world
    let now := max s.time.elapsed x
    let mark : Seq := match c.kind with
      | .custom => w.tableSeq
      | _ => (w.subjectRev c).getD c.seq
    let zones := w.autoZones c.kind c.subject c.oldPlatform
    let d : Cue := { c with
      zones := if c.origin = .auto ∧ zones ≠ 0 then zones else c.zones
      state := .pendingWall, timer := none, queuedAt := none, seq := mark }
    let falls (cmd : Instr) : Prop :=
      (∃ t rs, exec cmd s = .next t ∧ s.OnlyWorld x t ∧ w.Background t.world ∧ t.link = s.link.carries rs) ∧
      (notEarlier w.commit.wallSeq mark = false →
        ∃ t, exec cmd s = .next t ∧ s.OnlyWorld x t ∧ t.world = { w.fresh with cues := insertCue d w.cues } ∧
          t.link = s.link.carries []) ∧
      (notEarlier w.commit.wallSeq mark = true →
        (w.au.available = false ∨ ∀ i : Fin 4, w.au.channels[i].phase ≠ .free) →
        ∃ t, exec cmd s = .next t ∧ s.OnlyWorld x t ∧
          t.world = { w.fresh with cues := insertCue { d with state := .queued, queuedAt := some now, aged := 0 } w.cues } ∧
          t.link = s.link.carries [])
    (c.state = .delaying → falls (.cueDelayExpiry slot)) ∧
      (c.state = .armed → c.mode.isPeriodic = true → falls (.cuePeriodExpiry slot))

/-- "A QUEUED cue's effective priority is its `priority` lowered by its age" (R159): it is the priority itself for 0 and 1, and for 2 and 3 falls
by one for each whole minute queued, never below 1; while it can still fall, its next change comes a whole number of minutes after
`queued_at`, one more than the changes that lie behind.

The release check (R143): a cue is valid by the table of its kind; an invalid one is withdrawn, a valid one whose subject's `rev` is later
than its `seq` is stale, and any other starts.

CUE_AGING (R143, R158, R159, R162): each change of an effective priority comes at its moment, or at once where that has passed,
and runs the arbiter (the model's choice, notes/assumptions/20.md). While the link is UNAVAILABLE or no channel is FREE it starts
nothing. Otherwise, with no cue of priority 0 waiting, it chooses the eligible QUEUED cue that comes before every other eligible one by
effective priority, `queued_at` and slot. One that starts is STARTING on the lowest FREE channel and its START is sent; where no other channel
is FREE, or every other QUEUED cue shares a zone with a play or with that cue, nothing else changes. With no other cue eligible, an
invalid one leaves the table WITHDRAWN, INVALID (an automatic PLATFORM_CHANGE is told to its record, R65), and a stale one returns to
PENDING_WALL under the later mark, where the wall has not reached that mark and every cue in PENDING_WALL waits. The last clauses are for sound
tables (`World.CuesSound`, `World.PlaysSound`) and cues with zones (R138). The fields of START are composed
from the subject as it stands (R162; the expected time of an INDEFINITE delay is the model's choice, notes/assumptions/44.md). -/
def Obligations.AnAgingCueRunsTheArbiter : Prop :=
  (∀ (c : Cue) (now queued : Nat), c.queuedAt = some queued → queued ≤ now → c.priority ≤ 3 →
    (c.priority ≤ 1 → c.effective now = c.priority) ∧
    (2 ≤ c.priority → ((c.effective now : Nat) : Int) = max 1 ((c.priority : Int) - ((now - queued) / 60000000 : Nat))) ∧
    (c.state = .queued → c.aged + 1 < c.priority →
      c.nextAging = some (queued + (c.aged + 1) * 60000000) ∧
      c.effective (queued + (c.aged + 1) * 60000000) = c.priority - (c.aged + 1) ∧
      (queued + c.aged * 60000000 ≤ now → now < queued + (c.aged + 1) * 60000000 → c.effective now = c.priority - c.aged)) ∧
    (c.state ≠ .queued ∨ c.priority ≤ c.aged + 1 → c.nextAging = none)) ∧
  (∀ (w : World) (c : Cue),
    let live (r : Service) : Prop := r.state ≠ .departed ∧ r.state ≠ .cancelled
    let valid : Prop :=
      (c.kind = .notice ∧ ∃ n, w.notice c.subject = some n ∧ n.active = true) ∨
      (c.kind = .custom ∧ w.text c.subject ≠ none) ∨
      (c.kind.ofService = true ∧ ∃ r, w.service c.subject = some r ∧
        (c.kind = .platformChange → live r ∧ r.platform ≠ 0 ∧ c.oldPlatform ≠ some r.platform) ∧
        (c.kind = .delay → live r ∧ ∀ n < w.cuePolicy.delayThreshold, r.delay ≠ .minutes n) ∧
        (c.kind = .approach → r.state = .boarding ∨ r.state = .closing) ∧
        (c.kind = .boarding → r.state = .boarding) ∧
        (c.kind = .cancellation → r.state = .cancelled))
    let rev : Option Seq := match c.kind with
      | .notice => (w.notice c.subject).map (·.rev)
      | .custom => (w.text c.subject).map (·.rev)
      | _ => (w.service c.subject).map (·.rev)
    (¬ valid → w.releaseCheck c = .withdrawn) ∧
    ∀ x, rev = some x → valid →
      (later x c.seq = true → w.releaseCheck c = .stale x) ∧ (later x c.seq = false → w.releaseCheck c = .starts)) ∧
  ∀ (s : State) (slot : Fin 32) (aged : Cue) (x : Nat), s.world.cueAt slot.val = some aged → aged.nextAging = some x →
    let w := s.world
    let now := max s.time.elapsed x
    let older (c : Cue) : Cue := if c.slot = slot.val then { c with aged := c.aged + 1 } else c
    (w.au.available = false ∨ (∀ j : Fin 4, w.au.channels[j].phase ≠ .free) →
      ∃ t, exec (.cueAging slot) s = .next t ∧ s.OnlyWorld x t ∧ t.link = s.link.carries [] ∧
        t.world = { w.fresh with cues := w.cues.map older }) ∧
    ∀ (c : Cue) (i : Fin 4), w.CuesSound → w.PlaysSound → (∀ d ∈ w.cues, d.zones ≠ 0) → w.au.available = true → w.au.channels[i].phase = .free →
      (∀ j, j < i → w.au.channels[j].phase ≠ .free) → (∀ d ∈ w.cues, d.state = .queued → d.priority ≠ 0) →
      c ∈ w.cues → c.state = .queued → w.eligible c = true →
      let alone : Prop := ∀ d ∈ w.cues, d ≠ c → d.state = .queued → w.eligible d = false
      let withdrawn : Report := .cueState c.handle .withdrawnInvalid c.origin c.kind c.subject (now / 1000)
      let auto : Prop := c.origin = .auto ∧ c.kind = .platformChange
      (alone → w.releaseCheck c = .withdrawn → ¬ auto →
        ∃ t, exec (.cueAging slot) s = .next t ∧ s.OnlyWorld x t ∧ t.link = s.link.carries [withdrawn] ∧
          t.world = { w.fresh with cues := (w.cues.map older).filter (·.slot != c.slot) }) ∧
      (alone → w.releaseCheck c = .withdrawn → auto → (w.services.map (·.code)).Nodup →
        ∃ t rs, exec (.cueAging slot) s = .next t ∧ s.OnlyWorld x t ∧ w.Lives t.env t.world ∧ t.link = s.link.carries rs ∧
          withdrawn ∈ rs ∧ ∀ r ∈ t.world.services, r.code = c.subject → r.changeCue.map (·.handle) ≠ some c.handle) ∧
      (∀ rev, w.releaseCheck c = .stale rev → alone → notEarlier w.commit.wallSeq rev = false →
        (∀ d ∈ w.cues, d.state = .pendingWall → notEarlier w.commit.wallSeq d.seq = false) →
        ∃ t, exec (.cueAging slot) s = .next t ∧ s.OnlyWorld x t ∧ t.link = s.link.carries [] ∧
          t.world = { w.fresh with
            cues := insertCue { older c with state := .pendingWall, seq := rev, queuedAt := none } (w.cues.map older) }) ∧
      (w.releaseCheck c = .starts →
      (∀ d ∈ w.cues, d ≠ c → d.state = .queued → w.eligible d = true →
        c.effective now < d.effective now ∨ (c.effective now = d.effective now ∧
          (c.queuedAt.getD now < d.queuedAt.getD now ∨ (c.queuedAt.getD now = d.queuedAt.getD now ∧ c.slot < d.slot)))) →
      ((∀ j, j ≠ i → w.au.channels[j].phase ≠ .free) ∨
        ∀ d ∈ w.cues, d ≠ c → d.state = .queued → w.eligible d = false ∨ d.zones &&& c.zones ≠ 0) →
      let started := if c.kind = .delay then (w.service c.subject).map (·.delay) else none
      let starting : Cue := { older c with
        state := .starting, startedDelay := if c.kind = .delay then started else c.startedDelay }
      ∃ t, exec (.cueAging slot) s = .next t ∧ s.OnlyWorld x t ∧ t.link = s.link.carries [] ∧
        t.world = { w.fresh with
          cues := insertCue starting (w.cues.map older)
          au := { w.fresh.au with
            channels := w.au.channels.set i
              { phase := .starting
                play := some
                  { handle := c.handle, origin := c.origin, kind := c.kind, subject := c.subject, zones := c.zones
                    priority := c.priority, startedDelay := started, startAt := now }
                timer := none }
            made := [.start c.handle i.val c.zones c.kind (w.startFields starting started s.time.dayStart)] } })

/-- Preemption (R160, R164, R167, R144): a QUEUED cue of priority 0 that shares zones with one play in STARTING or PLAYING of priority 2 or
3, and beyond it only with STOPPING ones, has that play stopped at a run of the arbiter: its channel is STOPPING with the stop wait
running, STOP is sent, and the play ends PREEMPTED. Its cue is QUEUED once more; where it was preempted before, it leaves the table
WITHDRAWN, PREEMPTED_TWICE, its subject gone or not; a periodic one waits its period again, its repeats kept; any other whose subject
or period is gone leaves. The preempting cue waits, since its zones are not free yet. The run here is that of CUE_AGING, with every
other QUEUED cue shut out. The model's readings and choices: preemption only while a channel is FREE (notes/assumptions/21.md); a cue that
is ARMED again loses `queued_at`, and one that is QUEUED again keeps the age it had, which `aged` counts, as CUE_AGING's run counts
its own (notes/assumptions/20.md); what `subjectGone` and a period of 0 do to a cue whose play ends (notes/assumptions/32.md,
notes/assumptions/37.md). -/
def Obligations.APriorityZeroCuePreempts : Prop :=
  ∀ (s : State) (slot : Fin 32) (aged c : Cue) (i : Fin 4) (p : Play) (x : Nat), s.world.cueAt slot.val = some aged →
    aged.nextAging = some x →
    let w := s.world
    let now := max s.time.elapsed x
    let older (d : Cue) : Cue := if d.slot = slot.val then { d with aged := d.aged + 1 } else d
    w.au.available = true → (∃ j : Fin 4, w.au.channels[j].phase = .free) →
    c ∈ w.cues → c.state = .queued → c.priority = 0 → c.zones &&& p.zones ≠ 0 →
    w.au.channels[i].play = some p → (w.au.channels[i].phase = .starting ∨ w.au.channels[i].phase = .playing) →
    2 ≤ p.priority →
    (∀ j, j ≠ i → ∀ q, w.au.channels[j].play = some q → c.zones &&& q.zones ≠ 0 → w.au.channels[j].phase = .stopping) →
    (∀ d ∈ w.cues, d ≠ c → d.state = .queued → d.priority ≠ 0 ∧ w.eligible d = false) →
    let leaves (after : List Cue) (rs : List Report) : Prop :=
      ∃ t, exec (.cueAging slot) s = .next t ∧ s.OnlyWorld x t ∧
        t.link = s.link.carries (.cueState p.handle .preempted p.origin p.kind p.subject (now / 1000) :: rs) ∧
        t.world = { w.fresh with
          cues := after
          au := { w.fresh.au with
            channels := w.au.channels.set i
              { phase := .stopping, play := some p, timer := some (now + w.au.stopWait * 1000) }
            made := [.stop p.handle] } }
    let older' := w.cues.map older
    (w.cue p.handle = none → leaves older' []) ∧
    ∀ q, w.cue p.handle = some q → q.slot ≠ slot.val → q.state.isPending = false → q.zones = p.zones → q.priority = p.priority →
      let gone := q.subjectGone = true ∨ w.periodGone q = true
      let twice := q.mode.isPeriodic = false ∧ q.preempted = true
      (gone → ¬ twice → ¬ (q.origin = .auto ∧ q.kind = .platformChange) → leaves (older'.filter (·.slot != q.slot)) []) ∧
      (¬ gone → q.mode.isPeriodic = true →
        leaves (insertCue { q with
          state := .armed, timer := some (now + q.periodS.getD 0 * 1000000), queuedAt := none } older') []) ∧
      (twice → ¬ (q.origin = .auto ∧ q.kind = .platformChange) →
        leaves (older'.filter (·.slot != q.slot))
          [.cueState q.handle .withdrawnPreemptedTwice q.origin q.kind q.subject (now / 1000)]) ∧
      (¬ gone → q.mode.isPeriodic = false → q.preempted = false →
        leaves (insertCue { q with
          preempted := true, state := .queued, aged := (now - q.queuedAt.getD now) / 60000000 } older') [])

/-! ## The announcement link -/

/-- START_SENT and PLAYING (R162, R164, R165): the start timer runs from the last character of the START; a PLAYING in STARTING
confirms the play, which is reported STARTED and bounded by the play limit; in STOPPING it changes nothing; one that names no
play is stray, is counted up to 65,535 (the model's choice, notes/assumptions/43.md) and is answered by a STOP. Every good frame is
counted, clears the count of timeouts and, while UNAVAILABLE, makes the link AVAILABLE with an AU_STATE report (R161, R168), placed
before the report of the frame itself (the model's choice, notes/assumptions/50.md); there no cue is QUEUED in these clauses, so that the
arbiter starts none.

STATUS_REPLY and STATUS_TIMER_EXPIRY (R161, R168): a status reply keeps the fault flags and reports a change of them, the first flags
after power-on counting as a change (the model's choice, notes/assumptions/21.md); each status timer sends a STATUS and is set five
seconds on. -/
def Obligations.PlaysAreConfirmedAndTheUnitHeard : Prop :=
  (∀ (s : State) (dt handle : Nat) (i : Fin 4),
    let now := s.time.elapsed + dt
    let w := s.world
    let x := w.au.channels[i]
    let heard : AnnLink := { w.fresh.au with
      received := min 65535 (w.au.received + 1), timeouts := 0, rx := .hunt, rxAt := none, available := true
      statusTimer := if w.au.available then w.au.statusTimer else none }
    let back : List Report := if w.au.available then [] else [.auState true 0 (now / 1000)]
    let leaves (cmd : Instr) (v : World) (rs : List Report) : Prop :=
      ∃ t, exec cmd s = .next t ∧ s.OnlyWorld now t ∧ t.link = s.link.carries rs ∧ t.world = v
    (x.phase = .starting → x.timer = none →
      leaves (.startSent dt i) { w.fresh with au := { w.fresh.au with
        channels := w.au.channels.set i { x with timer := some (now + w.au.startTimeout * 1000) } } } []) ∧
    (x.phase ≠ .starting ∨ x.timer ≠ none → leaves (.startSent dt i) w.fresh []) ∧
    (w.au.available = true ∨ (∀ c ∈ w.cues, c.state ≠ .queued) →
      (∀ p, w.playOf handle = some i → x.play = some p → x.phase = .starting →
        leaves (.playing dt handle)
          { w.fresh with
            cues := w.cues.map fun c => if c.handle = p.handle then { c with state := .playing } else c
            au := { heard with
              channels := w.au.channels.set i
                { x with phase := .playing, timer := some (now + w.au.playLimit * 1000000) } } }
          (back ++ [.cueState p.handle (.started i.val) p.origin p.kind p.subject (now / 1000)])) ∧
      (w.playOf handle = some i → x.phase = .stopping → leaves (.playing dt handle) { w.fresh with au := heard } back) ∧
      (w.playOf handle = none →
        leaves (.playing dt handle) { w.fresh with
          au := { heard with stray := min 65535 (w.au.stray + 1), made := [.stop handle] } } back))) ∧
  (∀ (s : State) (dt x : Nat) (faults : Byte),
    let now := s.time.elapsed + dt
    let w := s.world
    let told : List Report := if w.au.unitStatus = some faults then [] else [.auState true 0 (now / 1000)]
    (w.au.available = true ∨ (∀ c ∈ w.cues, c.state ≠ .queued) →
      ∃ t, exec (.statusReply dt faults) s = .next t ∧ s.OnlyWorld now t ∧
        t.world = { w.fresh with au := { w.fresh.au with
          received := min 65535 (w.au.received + 1), timeouts := 0, rx := .hunt, rxAt := none, available := true
          statusTimer := if w.au.available then w.au.statusTimer else none
          unitStatus := some faults } } ∧
        t.link = s.link.carries ((if w.au.available then [] else [.auState true 0 (now / 1000)]) ++ told)) ∧
    (w.au.statusTimer = some x →
      ∃ t, exec .statusTimerExpiry s = .next t ∧ s.OnlyWorld x t ∧ t.link = s.link.carries [] ∧
        t.world = { w.fresh with au := { w.fresh.au with statusTimer := some (x + 5000000), made := [.status] } }))

/-- The receiver on AU_RXD (R161, R179, R180): a complete frame of the unit, received in HUNT character by character with its check,
does what its command does; that the unit's typed commands stand for such frames, and that their tag is not judged, is the model's
choice (notes/assumptions/4.md, notes/assumptions/12.md). A frame of a kind the unit does not send, with a body that does not match
its kind's layout, with a bad check, a length above 1,028 or a character without its stop bit is discarded: the count of frames
discarded rises by one, stopping at 65,535, and nothing else changes. A silence (AU_GAP) discards the frame that is being received, at the first
whole microsecond at which more than four byte times at 115,200 bit/s have passed since its last character (the model's rounding,
notes/assumptions/25.md), where that lies in the silence, and the step ends there (notes/assumptions/1.md); a shorter one, or one behind
no character of a frame, only lets its time pass. -/
def Obligations.AUnitFrameDoesWhatItsCommandDoes : Prop :=
  (∀ (s : State) (dt kind tag : Nat) (body : List Byte), s.world.au.rx = .hunt → kind < 256 → tag < 256 →
    body.length ≤ 1028 →
    let does (body : List Byte) (cmd : Instr) : Prop :=
      ∃ t, exec (.auFrameDiscarded { dt := dt, chars := arriving (hostFrame kind tag body) }) s = .next t ∧ exec cmd s = .next t
    let discarded (chars : List RxChar) : Prop :=
      ∃ t, exec (.auFrameDiscarded { dt := dt, chars := chars }) s = .next t ∧ s.OnlyWorld (s.time.elapsed + dt) t ∧
        t.link = s.link.carries [] ∧
        t.world = { s.world.fresh with au := { s.world.fresh.au with discarded := min 65535 (s.world.au.discarded + 1), rxAt := none } }
    let known (length : Nat) : Prop := ((kind = 0x81 ∨ kind = 0x83 ∨ kind = 0x84) ∧ length = 2) ∨ (kind = 0x82 ∧ length = 3) ∨
      (kind = 0x85 ∧ length = 1)
    (∀ handle, handle < 65536 →
      (kind = 0x81 → does (le 2 handle) (.playing dt handle)) ∧
      (∀ reason, kind = 0x82 → reason < 256 → does (le 2 handle ++ le 1 reason) (.refused dt handle reason)) ∧
      (kind = 0x83 → does (le 2 handle) (.done dt handle)) ∧
      (kind = 0x84 → does (le 2 handle) (.stopped dt handle))) ∧
    (∀ faults, kind = 0x85 → does [faults] (.statusReply dt faults)) ∧
    (¬ known body.length → discarded (arriving (hostFrame kind tag body))) ∧
    (∀ check : List Byte, check.length = 2 → check ≠ checkBytes (le 1 kind ++ le 1 tag ++ le 2 body.length ++ body) →
      discarded (arriving (0xA5#8 :: (le 1 kind ++ le 1 tag ++ le 2 body.length ++ body ++ check)))) ∧
    (∀ length, 1028 < length → length < 65536 →
      discarded (arriving (0xA5#8 :: (le 1 kind ++ le 1 tag ++ le 2 length)))) ∧
    ∀ (broken : Byte) (k : Nat), 1 ≤ k → k < body.length + 7 →
      discarded (arriving ((hostFrame kind tag body).take k) ++ [{ byte := broken, framed := false }])) ∧
  (∀ (s : State) (dt : Nat), (∀ x, s.world.au.rxAt = some x → s.time.elapsed + dt < x + 40000000 / 115200 + 1) →
    ∃ t, exec (.auGap dt) s = .next t ∧ s.OnlyWorld (s.time.elapsed + dt) t ∧ t.world = s.world.fresh ∧
      t.link = s.link.carries []) ∧
  ∀ (s : State) (dt x : Nat), s.world.au.rxAt = some x → s.world.au.rx ≠ .hunt →
    x + 40000000 / 115200 + 1 ≤ s.time.elapsed + dt →
    ∃ t, exec (.auGap dt) s = .next t ∧ s.OnlyWorld (x + 40000000 / 115200 + 1) t ∧ t.link = s.link.carries [] ∧
      t.world = { s.world.fresh with au := { s.world.fresh.au with
        rx := .hunt, rxAt := none, discarded := min 65535 (s.world.au.discarded + 1) } }

/-- REFUSED and START_TIMEOUT (R162, R167, R168), with no cue QUEUED to take the freed channel: the channel is FREE and the play FAILED; its
cue waits its period again, its repeats one fewer, or leaves the table (R144). A timeout is counted, and the third in a row makes the
link UNAVAILABLE with its STATUS timer running.

PLAY_LIMIT_EXPIRY, STOPPED and STOP_WAIT_EXPIRY (R163, R164, R165): the play limit asks for a stop and ends the play FAILED, reason OVERRUN;
a STOPPED or the stop wait frees a STOPPING channel, with no cue QUEUED to take it; a STOPPED for another play, or for none, is stray.
A good frame makes an UNAVAILABLE link AVAILABLE (R168). The model's readings and choices: a cue that waits its period again loses
`queued_at` (notes/assumptions/20.md); one whose subject had gone, or whose notice's period is 0, leaves (notes/assumptions/32.md,
notes/assumptions/37.md); the stray count stops at 65,535 (notes/assumptions/43.md); AU_STATE comes first (notes/assumptions/50.md).

These say the whole outcome of a play that is no automatic PLATFORM_CHANGE. The failure of one that is, is told to the Service Table
(R65, R167): the record's `change_cue` is absent where it named the play, the record is evaluated, and no other record changes but by
its evaluation. -/
def Obligations.PlaysFailAndAreStopped : Prop :=
  (∀ (s : State) (dt handle reason x : Nat) (i : Fin 4) (p : Play), s.world.au.channels[i].play = some p →
    let w := s.world
    let y := w.au.channels[i]
    let auto := p.origin = .auto ∧ p.kind = .platformChange
    let alone := ∀ c ∈ w.cues, c.state ≠ .queued
    let ended (now : Nat) : List Cue := match w.cue p.handle with
      | none => w.cues
      | some c =>
        if c.subjectGone = true ∨ w.periodGone c = true ∨ c.mode.isPeriodic = false ∨ c.repeatsLeft = some 1 then
          w.cues.filter (·.slot != c.slot)
        else insertCue { c with
          state := .armed
          timer := some (now + c.periodS.getD 0 * 1000000)
          queuedAt := none
          repeatsLeft := c.repeatsLeft.map (· - 1) } w.cues
    let freed := w.au.channels.set i { phase := .free, play := none, timer := none }
    let failed (event : CueEvent) (now : Nat) : Report := .cueState p.handle event p.origin p.kind p.subject (now / 1000)
    let told (cmd : Instr) (target : Nat) (event : CueEvent) (now : Nat) : Prop :=
      ∃ t rs, exec cmd s = .next t ∧ s.OnlyWorld target t ∧ w.Lives t.env t.world ∧ t.link = s.link.carries rs ∧
        failed event now ∈ rs ∧
        ∀ r ∈ t.world.services, r.code = p.subject → r.changeCue.map (·.handle) ≠ some p.handle ∧
          ((∃ r₀ ∈ w.services, r₀.code = r.code ∧ r₀.changeCue.map (·.handle) = some p.handle) → r.settled w.policy t.env)
    (y.phase = .starting → w.playOf handle = some i →
      let now := s.time.elapsed + dt
      (¬ auto → alone →
        ∃ t, exec (.refused dt handle reason) s = .next t ∧ s.OnlyWorld now t ∧
          t.link = s.link.carries
            ((if w.au.available then [] else [.auState true 0 (now / 1000)]) ++ [failed .failedRefused now]) ∧
          t.world = { w.fresh with
            cues := ended now
            au := { w.fresh.au with
              channels := freed, received := min 65535 (w.au.received + 1), timeouts := 0, rx := .hunt, rxAt := none, available := true
              statusTimer := if w.au.available then w.au.statusTimer else none } }) ∧
      (auto → (w.services.map (·.code)).Nodup → told (.refused dt handle reason) now .failedRefused now)) ∧
    (y.phase = .starting → y.timer = some x →
      let now := max s.time.elapsed x
      (¬ auto → alone → w.au.available = false ∨ w.au.timeouts < 2 →
        ∃ t, exec (.startTimeout i) s = .next t ∧ s.OnlyWorld x t ∧ t.link = s.link.carries [failed .failedStartTimeout now] ∧
          t.world = { w.fresh with
            cues := ended now
            au := { w.fresh.au with channels := freed, timeouts := min 3 (w.au.timeouts + 1) } }) ∧
      (¬ auto → alone → w.au.available = true → 2 ≤ w.au.timeouts →
        ∃ t, exec (.startTimeout i) s = .next t ∧ s.OnlyWorld x t ∧
          t.link = s.link.carries [failed .failedStartTimeout now, .auState false 3 (now / 1000)] ∧
          t.world = { w.fresh with
            cues := ended now
            au := { w.fresh.au with
              channels := freed, timeouts := 3, available := false, statusTimer := some (now + 5000000) } }) ∧
      (auto → (w.services.map (·.code)).Nodup → told (.startTimeout i) x .failedStartTimeout now)) ∧
    (y.phase = .playing → y.timer = some x →
      let now := max s.time.elapsed x
      (¬ auto →
        ∃ t, exec (.playLimitExpiry i) s = .next t ∧ s.OnlyWorld x t ∧ t.link = s.link.carries [failed .failedOverrun now] ∧
          t.world = { w.fresh with
            cues := ended now
            au := { w.fresh.au with
              channels := w.au.channels.set i { y with phase := .stopping, timer := some (now + w.au.stopWait * 1000) }
              made := [.stop p.handle] } }) ∧
      (auto → (w.services.map (·.code)).Nodup → told (.playLimitExpiry i) x .failedOverrun now))) ∧
  (∀ (s : State) (dt handle x : Nat) (i : Fin 4),
    let w := s.world
    let y := w.au.channels[i]
    let now := s.time.elapsed + dt
    let heard : AnnLink := { w.fresh.au with
      received := min 65535 (w.au.received + 1), timeouts := 0, rx := .hunt, rxAt := none, available := true
      statusTimer := if w.au.available then w.au.statusTimer else none }
    let back : List Report := if w.au.available then [] else [.auState true 0 (now / 1000)]
    let freed := w.au.channels.set i { phase := .free, play := none, timer := none }
    (w.playOf handle = some i → y.phase = .stopping → (∀ c ∈ w.cues, c.state ≠ .queued) →
      ∃ t, exec (.stopped dt handle) s = .next t ∧ s.OnlyWorld now t ∧ t.link = s.link.carries back ∧
        t.world = { w.fresh with au := { heard with channels := freed } }) ∧
    (w.au.available = true ∨ (∀ c ∈ w.cues, c.state ≠ .queued) →
      (w.playOf handle = none ∨ w.playOf handle = some i ∧ y.phase ≠ .stopping) →
      ∃ t, exec (.stopped dt handle) s = .next t ∧ s.OnlyWorld now t ∧ t.link = s.link.carries back ∧
        t.world = { w.fresh with au := { heard with stray := min 65535 (w.au.stray + 1) } }) ∧
    (y.phase = .stopping → y.timer = some x → (∀ c ∈ w.cues, c.state ≠ .queued) →
      ∃ t, exec (.stopWaitExpiry i) s = .next t ∧ s.OnlyWorld x t ∧ t.link = s.link.carries [] ∧
        t.world = { w.fresh with au := { w.fresh.au with channels := freed } }))

/-- DONE (R163, R165, R166), with no cue QUEUED to take the freed channel: a play in PLAYING ends DONE, and one in STARTING is first
confirmed, reported STARTED, and then ends DONE; its channel is FREE, its cue waits its period again or leaves (R144), and a DELAY's
record takes the delay the unit was asked to speak as its `announced_delay`; a DONE on a STOPPING channel frees it; one that names no
play is stray. A good frame makes an UNAVAILABLE link AVAILABLE (R168). The model's readings and choices: a DONE in STARTING is PLAYING and
DONE (notes/assumptions/21.md); a cue that waits its period again loses `queued_at` (notes/assumptions/20.md); one whose subject had gone,
or whose notice's period is 0, leaves (notes/assumptions/32.md, notes/assumptions/37.md); the stray count stops at 65,535
(notes/assumptions/43.md); the record that takes the delay is the one under the code at that moment (notes/assumptions/49.md); AU_STATE comes
first (notes/assumptions/50.md).

These say the whole outcome of a play that is no automatic PLATFORM_CHANGE. One that is, and whose cue is the only one of its handle,
is told to the Service Table (R65, R166): a record whose `change_cue` names the play has it heard and is evaluated, and no other record
changes but by its evaluation. -/
def Obligations.ADonePlayRecordsItsDelay : Prop :=
  ∀ (s : State) (dt handle : Nat) (i : Fin 4), (∀ c ∈ s.world.cues, c.state ≠ .queued) →
    let now := s.time.elapsed + dt
    let w := s.world
    let heard : AnnLink := { w.fresh.au with
      received := min 65535 (w.au.received + 1), timeouts := 0, rx := .hunt, rxAt := none, available := true
      statusTimer := if w.au.available then w.au.statusTimer else none }
    let back : List Report := if w.au.available then [] else [.auState true 0 (now / 1000)]
    let freed : AnnLink := { heard with channels := w.au.channels.set i { phase := .free, play := none, timer := none } }
    (∀ p, w.playOf handle = some i → w.au.channels[i].play = some p →
      (w.au.channels[i].phase = .playing ∨ w.au.channels[i].phase = .starting) →
      let auto := p.origin = .auto ∧ p.kind = .platformChange
      let confirmed := w.au.channels[i].phase = .starting
      let before : List Cue := if confirmed then
        w.cues.map fun c => if c.handle = p.handle then { c with state := .playing } else c else w.cues
      let ended : List Cue := match w.cue p.handle with
        | none => before
        | some c =>
          if c.subjectGone = true ∨ w.periodGone c = true ∨ c.mode.isPeriodic = false ∨ c.repeatsLeft = some 1 then
            before.filter (·.slot != c.slot)
          else insertCue { c with
            state := .armed
            timer := some (now + c.periodS.getD 0 * 1000000)
            queuedAt := none
            repeatsLeft := c.repeatsLeft.map (· - 1) } before
      let told (event : CueEvent) : Report := .cueState p.handle event p.origin p.kind p.subject (now / 1000)
      (¬ auto →
        ∃ t, exec (.done dt handle) s = .next t ∧ s.OnlyWorld now t ∧
          t.link = s.link.carries (back ++ (if confirmed then [told (.started i.val)] else []) ++ [told .done]) ∧
          t.world = { w.fresh with
            services := if p.kind = .delay then w.services.map fun r =>
                if r.code = p.subject then { r with announced := p.startedDelay } else r
              else w.services
            cues := ended
            au := freed }) ∧
      (auto → (w.services.map (·.code)).Nodup →
        (∀ c ∈ w.cues, c.handle = p.handle → w.cue p.handle = some c ∧ c.mode = .oneShot) →
        ∃ t rs, exec (.done dt handle) s = .next t ∧ s.OnlyWorld now t ∧ w.Lives t.env t.world ∧ t.link = s.link.carries rs ∧
          told .done ∈ rs ∧ (confirmed → told (.started i.val) ∈ rs) ∧
          ∀ r ∈ t.world.services, r.code = p.subject →
            (∃ r₀ ∈ w.services, r₀.code = r.code ∧ r₀.changeCue.map (·.handle) = some p.handle) →
            r.changeCue = some { handle := p.handle, heard := true } ∧ r.settled w.policy t.env)) ∧
    (w.playOf handle = some i → w.au.channels[i].phase = .stopping →
      ∃ t, exec (.done dt handle) s = .next t ∧ s.OnlyWorld now t ∧ t.link = s.link.carries back ∧
        t.world = { w.fresh with au := freed }) ∧
    (w.playOf handle = none →
      ∃ t, exec (.done dt handle) s = .next t ∧ s.OnlyWorld now t ∧ t.link = s.link.carries back ∧
        t.world = { w.fresh with au := { heard with stray := min 65535 (w.au.stray + 1) } })

/-! ## Dials -/

/-- A slave clock line is evaluated (R174, R175): nothing while a pulse is on it; STOPPED while UNSET or disabled; otherwise its distance d = (c - dial)
mod 720 gives IDLE at 0, PULSING at 1, CATCHING_UP to 659 and HOLDING beyond, and in PULSING and CATCHING_UP a quiet line begins
a pulse of its width.

DIAL_PULSE_END and DIAL_REST_END (R175, R176): at a pulse's end the dial advances by one, from 719 to 0, and the polarity turns over, or the pending
set is applied in their place; a rest of the width follows; at the rest's end the line is evaluated and may pulse again. -/
def Obligations.DialsAreEvaluatedAndPulse : Prop :=
  (∀ (x : DialLine) (e : Env),
    let d := (((e.minute % 720 : Nat) : Int) - x.dial) % 720
    let y := x.evaluate e
    (x.drive = .driving → y = x) ∧
    (x.drive ≠ .driving → (e.valid = false ∨ x.enabled = false) → y = { x with state := .stopped }) ∧
    (x.drive ≠ .driving → e.valid = true → x.enabled = true →
      (y.distance : Int) = d ∧ y.dial = x.dial ∧ y.next = x.next ∧ y.width = x.width ∧ y.enabled = x.enabled ∧
      y.pending = x.pending ∧
      (y.state = .idle ↔ d = 0) ∧ (y.state = .pulsing ↔ d = 1) ∧ (y.state = .catchingUp ↔ 2 ≤ d ∧ d ≤ 659) ∧
      (y.state = .holding ↔ 660 ≤ d) ∧
      (x.drive = .quiet → 1 ≤ d → d ≤ 659 → y.drive = .driving ∧ y.timer = some (e.now + x.width * 1000)) ∧
      (¬ (x.drive = .quiet ∧ 1 ≤ d ∧ d ≤ 659) → y.drive = x.drive ∧ y.timer = x.timer))) ∧
  (∀ (s : State) (i : Fin 4) (x : Nat), s.dials[i].timer = some x →
    let y := s.dials[i]
    let now := max s.time.elapsed x
    let frame (t : State) := t.time = s.time.runTo x ∧ t.lines = s.lines ∧ t.refWindows = s.refWindows ∧ t.pending = s.pending ∧
      t.world = s.world.fresh ∧ ∀ j, j ≠ i → t.dials[j] = s.dials[j]
    (y.drive = .driving →
      ∃ t rs, exec (.dialPulseEnd i) s = .next t ∧ frame t ∧ t.link = s.link.carries rs ∧
        t.dials[i] = DialLine.evaluate t.env (match y.pending with
          | some (dial, next) => { y with
              dial := dial, next := next, pending := none, drive := .resting, timer := some (now + y.width * 1000) }
          | none => { y with
              dial := if y.dial = 719 then 0 else (y.dial + 1) % 720
              next := if y.next = .plus then .minus else .plus
              drive := .resting
              timer := some (now + y.width * 1000) })) ∧
    (y.drive = .resting →
      ∃ t rs, exec (.dialRestEnd i) s = .next t ∧ frame t ∧ t.link = s.link.carries rs ∧
        t.dials[i] = DialLine.evaluate t.env { y with drive := .quiet, timer := none }))

/-- DIAL_LINE_SET and DIAL_SET (R172, R173, R174, R177): the width is taken down to a multiple of 50 ms and clamped; enabling evaluates
the line, disabling stops it, leaves a pulse to its end and keeps the distance as last evaluated (the model's reading,
notes/assumptions/24.md); a set dial takes the given values at once, or waits as the pending set while a pulse is
on the line. A line outside 1..4, a position above 719 or an unknown polarity is refused OUT_OF_RANGE. A change of state that R177
names is reported. -/
def Obligations.DialRequestsSetTheLine : Prop :=
  ∀ (s : State) (dt tag number dial width : Nat) (enable : Bool) (next : Impulse), s.link.idle →
    let now := s.time.elapsed + dt
    let e := (s.after dt).env
    let refused (cmd : Instr) (kind : Nat) := ∃ t, exec cmd s = .next t ∧ s.OnlyWorld now t ∧ t.world = s.world.fresh ∧
      t.link = (s.link.replied (refusal kind tag .outOfRange .empty)).carries []
    let leaves (cmd : Instr) (kind : Nat) (adjusted : Bool) (i : Fin 4) (y : DialLine) : Prop :=
      ∃ t rs, exec cmd s = .next t ∧ t.time = s.time.runTo now ∧ t.lines = s.lines ∧ t.refWindows = s.refWindows ∧
        t.pending = s.pending ∧ t.world = s.world.fresh ∧ (∀ j, j ≠ i → t.dials[j] = s.dials[j]) ∧ t.dials[i] = y ∧
        t.link = (s.link.replied (okReply kind tag adjusted .empty)).carries rs ∧
        (rs ≠ [] ↔ s.dials[i].state ≠ y.state ∧ ∃ x ∈ [s.dials[i].state, y.state], x = .stopped ∨ x = .catchingUp ∨ x = .holding)
    let taken := max 100 (min 2000 (width / 50 * 50))
    (number = 0 ∨ 4 < number → refused (.dialLineSet dt tag number enable width) 0x1D ∧
      refused (.dialSet dt tag number dial next.code) 0x1E) ∧
    (719 < dial → refused (.dialSet dt tag number dial next.code) 0x1E) ∧
    (∀ code, Impulse.ofCode code = none → refused (.dialSet dt tag number dial code) 0x1E) ∧
    ∀ i : Fin 4, number = i.val + 1 →
      let x := s.dials[i]
      leaves (.dialLineSet dt tag number enable width) 0x1D (taken != width) i
        (if enable = false then { x with enabled := false, width := taken, state := .stopped }
        else if x.enabled = true then { x with width := taken }
        else { x with enabled := true, width := taken }.evaluate e) ∧
      (dial ≤ 719 → leaves (.dialSet dt tag number dial next.code) 0x1E false i
        (if x.drive = .driving then { x with pending := some (dial, next) }
        else { x with dial := dial, next := next, pending := none }.evaluate e))
end

