-- ==== Sys2Proof/Laws/State.lean ====
section
/-! SUPPORT. Laws/State.lean: what each update of the state leaves in each field, so that no proof unfolds a record update. -/

namespace Sys2Proof.Machine

/-! ## `setTime` -/

@[simp] theorem State.setTime_time (t : TimeBase) (s : State) : (s.setTime t).time = t := rfl
@[simp] theorem State.setTime_lines (t : TimeBase) (s : State) : (s.setTime t).lines = s.lines := rfl
@[simp] theorem State.setTime_refWindows (t : TimeBase) (s : State) : (s.setTime t).refWindows = s.refWindows := rfl
@[simp] theorem State.setTime_world (t : TimeBase) (s : State) : (s.setTime t).world = s.world := rfl
@[simp] theorem State.setTime_dials (t : TimeBase) (s : State) : (s.setTime t).dials = s.dials := rfl
@[simp] theorem State.setTime_link (t : TimeBase) (s : State) : (s.setTime t).link = s.link := rfl
@[simp] theorem State.setTime_pending (t : TimeBase) (s : State) : (s.setTime t).pending = s.pending := rfl

/-! ## `setWorld` -/

@[simp] theorem State.setWorld_time (w : World) (s : State) : (s.setWorld w).time = s.time := rfl
@[simp] theorem State.setWorld_lines (w : World) (s : State) : (s.setWorld w).lines = s.lines := rfl
@[simp] theorem State.setWorld_refWindows (w : World) (s : State) : (s.setWorld w).refWindows = s.refWindows := rfl
@[simp] theorem State.setWorld_world (w : World) (s : State) : (s.setWorld w).world = w := rfl
@[simp] theorem State.setWorld_dials (w : World) (s : State) : (s.setWorld w).dials = s.dials := rfl
@[simp] theorem State.setWorld_link (w : World) (s : State) : (s.setWorld w).link = s.link := rfl
@[simp] theorem State.setWorld_pending (w : World) (s : State) : (s.setWorld w).pending = s.pending := rfl

/-! ## `setLink` -/

@[simp] theorem State.setLink_time (l : Link) (s : State) : (s.setLink l).time = s.time := rfl
@[simp] theorem State.setLink_lines (l : Link) (s : State) : (s.setLink l).lines = s.lines := rfl
@[simp] theorem State.setLink_refWindows (l : Link) (s : State) : (s.setLink l).refWindows = s.refWindows := rfl
@[simp] theorem State.setLink_world (l : Link) (s : State) : (s.setLink l).world = s.world := rfl
@[simp] theorem State.setLink_dials (l : Link) (s : State) : (s.setLink l).dials = s.dials := rfl
@[simp] theorem State.setLink_link (l : Link) (s : State) : (s.setLink l).link = l := rfl
@[simp] theorem State.setLink_pending (l : Link) (s : State) : (s.setLink l).pending = s.pending := rfl

/-! ## `setLine` -/

@[simp] theorem State.setLine_time (i : LineNo) (m : Monitor) (s : State) : (s.setLine i m).time = s.time := rfl
@[simp] theorem State.setLine_lines (i : LineNo) (m : Monitor) (s : State) : (s.setLine i m).lines = s.lines.set i m := rfl
@[simp] theorem State.setLine_refWindows (i : LineNo) (m : Monitor) (s : State) : (s.setLine i m).refWindows = s.refWindows := rfl
@[simp] theorem State.setLine_world (i : LineNo) (m : Monitor) (s : State) : (s.setLine i m).world = s.world := rfl
@[simp] theorem State.setLine_dials (i : LineNo) (m : Monitor) (s : State) : (s.setLine i m).dials = s.dials := rfl
@[simp] theorem State.setLine_link (i : LineNo) (m : Monitor) (s : State) : (s.setLine i m).link = s.link := rfl
@[simp] theorem State.setLine_pending (i : LineNo) (m : Monitor) (s : State) : (s.setLine i m).pending = s.pending := rfl

/-! ## `setDialLine` -/

@[simp] theorem State.setDialLine_time (i : Fin 4) (x : DialLine) (s : State) : (s.setDialLine i x).time = s.time := rfl
@[simp] theorem State.setDialLine_lines (i : Fin 4) (x : DialLine) (s : State) : (s.setDialLine i x).lines = s.lines := rfl
@[simp] theorem State.setDialLine_refWindows (i : Fin 4) (x : DialLine) (s : State) : (s.setDialLine i x).refWindows = s.refWindows := rfl
@[simp] theorem State.setDialLine_world (i : Fin 4) (x : DialLine) (s : State) : (s.setDialLine i x).world = s.world := rfl
@[simp] theorem State.setDialLine_dials (i : Fin 4) (x : DialLine) (s : State) : (s.setDialLine i x).dials = s.dials.set i x := rfl
@[simp] theorem State.setDialLine_link (i : Fin 4) (x : DialLine) (s : State) : (s.setDialLine i x).link = s.link := rfl
@[simp] theorem State.setDialLine_pending (i : Fin 4) (x : DialLine) (s : State) : (s.setDialLine i x).pending = s.pending := rfl

/-! ## `withPending` -/

@[simp] theorem State.withPending_time (l : List Instr) (s : State) : (s.withPending l).time = s.time := rfl
@[simp] theorem State.withPending_lines (l : List Instr) (s : State) : (s.withPending l).lines = s.lines := rfl
@[simp] theorem State.withPending_refWindows (l : List Instr) (s : State) : (s.withPending l).refWindows = s.refWindows := rfl
@[simp] theorem State.withPending_world (l : List Instr) (s : State) : (s.withPending l).world = s.world := rfl
@[simp] theorem State.withPending_dials (l : List Instr) (s : State) : (s.withPending l).dials = s.dials := rfl
@[simp] theorem State.withPending_link (l : List Instr) (s : State) : (s.withPending l).link = s.link := rfl
@[simp] theorem State.withPending_pending (l : List Instr) (s : State) : (s.withPending l).pending = l := rfl

/-! ## `work` -/

@[simp] theorem State.work_time (f : Env → World → World) (s : State) : (s.work f).time = s.time := rfl
@[simp] theorem State.work_lines (f : Env → World → World) (s : State) : (s.work f).lines = s.lines := rfl
@[simp] theorem State.work_refWindows (f : Env → World → World) (s : State) : (s.work f).refWindows = s.refWindows := rfl
@[simp] theorem State.work_world (f : Env → World → World) (s : State) : (s.work f).world = (f s.env s.world).settleWork s.env := rfl
@[simp] theorem State.work_dials (f : Env → World → World) (s : State) : (s.work f).dials = s.dials := rfl
@[simp] theorem State.work_link (f : Env → World → World) (s : State) : (s.work f).link = s.link := rfl
@[simp] theorem State.work_pending (f : Env → World → World) (s : State) : (s.work f).pending = s.pending := rfl

/-! ## `reports` -/

@[simp] theorem State.reports_time (l : List Report) (s : State) : (s.reports l).time = s.time := rfl
@[simp] theorem State.reports_lines (l : List Report) (s : State) : (s.reports l).lines = s.lines := rfl
@[simp] theorem State.reports_refWindows (l : List Report) (s : State) : (s.reports l).refWindows = s.refWindows := rfl
@[simp] theorem State.reports_world (l : List Report) (s : State) : (s.reports l).world = { s.world with out := s.world.out ++ l } := rfl
@[simp] theorem State.reports_dials (l : List Report) (s : State) : (s.reports l).dials = s.dials := rfl
@[simp] theorem State.reports_link (l : List Report) (s : State) : (s.reports l).link = s.link := rfl
@[simp] theorem State.reports_pending (l : List Report) (s : State) : (s.reports l).pending = s.pending := rfl

/-! ## `setHostReady` -/

@[simp] theorem State.setHostReady_time (b : Bool) (s : State) : (s.setHostReady b).time = s.time := rfl
@[simp] theorem State.setHostReady_lines (b : Bool) (s : State) : (s.setHostReady b).lines = s.lines := rfl
@[simp] theorem State.setHostReady_refWindows (b : Bool) (s : State) : (s.setHostReady b).refWindows = s.refWindows := rfl
@[simp] theorem State.setHostReady_world (b : Bool) (s : State) : (s.setHostReady b).world = s.world := rfl
@[simp] theorem State.setHostReady_dials (b : Bool) (s : State) : (s.setHostReady b).dials = s.dials := rfl
@[simp] theorem State.setHostReady_link (b : Bool) (s : State) : (s.setHostReady b).link = { s.link with hostReady := b } := rfl
@[simp] theorem State.setHostReady_pending (b : Bool) (s : State) : (s.setHostReady b).pending = s.pending := rfl

/-! ## `begin`, `after` and `close` -/

@[simp] theorem State.begin_time (x : Nat) (s : State) : (s.begin x).time = s.time.runTo x := rfl
@[simp] theorem State.begin_lines (x : Nat) (s : State) : (s.begin x).lines = s.lines := rfl
@[simp] theorem State.begin_refWindows (x : Nat) (s : State) : (s.begin x).refWindows = s.refWindows := rfl
@[simp] theorem State.begin_world (x : Nat) (s : State) : (s.begin x).world = s.world.fresh := rfl
@[simp] theorem State.begin_dials (x : Nat) (s : State) : (s.begin x).dials = s.dials := rfl
@[simp] theorem State.begin_link (x : Nat) (s : State) : (s.begin x).link = s.link := rfl
@[simp] theorem State.begin_pending (x : Nat) (s : State) : (s.begin x).pending = s.pending := rfl

@[simp] theorem State.after_time (dt : Nat) (s : State) : (s.after dt).time = s.time.runTo (s.time.elapsed + dt) := rfl
@[simp] theorem State.after_lines (dt : Nat) (s : State) : (s.after dt).lines = s.lines := rfl
@[simp] theorem State.after_refWindows (dt : Nat) (s : State) : (s.after dt).refWindows = s.refWindows := rfl
@[simp] theorem State.after_world (dt : Nat) (s : State) : (s.after dt).world = s.world.fresh := rfl
@[simp] theorem State.after_dials (dt : Nat) (s : State) : (s.after dt).dials = s.dials := rfl
@[simp] theorem State.after_link (dt : Nat) (s : State) : (s.after dt).link = s.link := rfl
@[simp] theorem State.after_pending (dt : Nat) (s : State) : (s.after dt).pending = s.pending := rfl

@[simp] theorem State.close_time (s : State) : s.close.time = s.time := rfl
@[simp] theorem State.close_lines (s : State) : s.close.lines = s.lines := rfl
@[simp] theorem State.close_refWindows (s : State) : s.close.refWindows = s.refWindows := rfl
@[simp] theorem State.close_world (s : State) : s.close.world = { s.world with out := [] } := rfl
@[simp] theorem State.close_dials (s : State) : s.close.dials = s.dials := rfl
@[simp] theorem State.close_link (s : State) : s.close.link = s.world.out.foldl (fun l r => (l.place r).kick) s.link.kick := rfl
@[simp] theorem State.close_pending (s : State) : s.close.pending = s.pending := rfl

/-! ## `setChannel` -/

@[simp] theorem World.setChannel_services (n : StringNo) (c : Channel) (w : World) : (w.setChannel n c).services = w.services := rfl
@[simp] theorem World.setChannel_tableSeq (n : StringNo) (c : Channel) (w : World) : (w.setChannel n c).tableSeq = w.tableSeq := rfl
@[simp] theorem World.setChannel_texts (n : StringNo) (c : Channel) (w : World) : (w.setChannel n c).texts = w.texts := rfl
@[simp] theorem World.setChannel_freeCells (n : StringNo) (c : Channel) (w : World) : (w.setChannel n c).freeCells = w.freeCells := rfl
@[simp] theorem World.setChannel_notices (n : StringNo) (c : Channel) (w : World) : (w.setChannel n c).notices = w.notices := rfl
@[simp] theorem World.setChannel_policy (n : StringNo) (c : Channel) (w : World) : (w.setChannel n c).policy = w.policy := rfl
@[simp] theorem World.setChannel_views (n : StringNo) (c : Channel) (w : World) : (w.setChannel n c).views = w.views := rfl
@[simp] theorem World.setChannel_dueHorizon (n : StringNo) (c : Channel) (w : World) : (w.setChannel n c).dueHorizon = w.dueHorizon := rfl
@[simp] theorem World.setChannel_commit (n : StringNo) (c : Channel) (w : World) : (w.setChannel n c).commit = w.commit := rfl
@[simp] theorem World.setChannel_walls (n : StringNo) (c : Channel) (w : World) : (w.setChannel n c).walls = w.walls := rfl
@[simp] theorem World.setChannel_latches (n : StringNo) (c : Channel) (w : World) : (w.setChannel n c).latches = w.latches := rfl
@[simp] theorem World.setChannel_channels (n : StringNo) (c : Channel) (w : World) : (w.setChannel n c).channels = w.channels.set n c := rfl
@[simp] theorem World.setChannel_cues (n : StringNo) (c : Channel) (w : World) : (w.setChannel n c).cues = w.cues := rfl
@[simp] theorem World.setChannel_nextHandle (n : StringNo) (c : Channel) (w : World) : (w.setChannel n c).nextHandle = w.nextHandle := rfl
@[simp] theorem World.setChannel_cuePolicy (n : StringNo) (c : Channel) (w : World) : (w.setChannel n c).cuePolicy = w.cuePolicy := rfl
@[simp] theorem World.setChannel_zoneMap (n : StringNo) (c : Channel) (w : World) : (w.setChannel n c).zoneMap = w.zoneMap := rfl
@[simp] theorem World.setChannel_concourse (n : StringNo) (c : Channel) (w : World) : (w.setChannel n c).concourse = w.concourse := rfl
@[simp] theorem World.setChannel_au (n : StringNo) (c : Channel) (w : World) : (w.setChannel n c).au = w.au := rfl
@[simp] theorem World.setChannel_out (n : StringNo) (c : Channel) (w : World) : (w.setChannel n c).out = w.out := rfl
@[simp] theorem World.setChannel_agenda (n : StringNo) (c : Channel) (w : World) : (w.setChannel n c).agenda = w.agenda := rfl

/-! ## `setWall` -/

@[simp] theorem World.setWall_services (n : StringNo) (x : Wall) (w : World) : (w.setWall n x).services = w.services := rfl
@[simp] theorem World.setWall_tableSeq (n : StringNo) (x : Wall) (w : World) : (w.setWall n x).tableSeq = w.tableSeq := rfl
@[simp] theorem World.setWall_texts (n : StringNo) (x : Wall) (w : World) : (w.setWall n x).texts = w.texts := rfl
@[simp] theorem World.setWall_freeCells (n : StringNo) (x : Wall) (w : World) : (w.setWall n x).freeCells = w.freeCells := rfl
@[simp] theorem World.setWall_notices (n : StringNo) (x : Wall) (w : World) : (w.setWall n x).notices = w.notices := rfl
@[simp] theorem World.setWall_policy (n : StringNo) (x : Wall) (w : World) : (w.setWall n x).policy = w.policy := rfl
@[simp] theorem World.setWall_views (n : StringNo) (x : Wall) (w : World) : (w.setWall n x).views = w.views := rfl
@[simp] theorem World.setWall_dueHorizon (n : StringNo) (x : Wall) (w : World) : (w.setWall n x).dueHorizon = w.dueHorizon := rfl
@[simp] theorem World.setWall_commit (n : StringNo) (x : Wall) (w : World) : (w.setWall n x).commit = w.commit := rfl
@[simp] theorem World.setWall_walls (n : StringNo) (x : Wall) (w : World) : (w.setWall n x).walls = w.walls.set n x := rfl
@[simp] theorem World.setWall_latches (n : StringNo) (x : Wall) (w : World) : (w.setWall n x).latches = w.latches := rfl
@[simp] theorem World.setWall_channels (n : StringNo) (x : Wall) (w : World) : (w.setWall n x).channels = w.channels := rfl
@[simp] theorem World.setWall_cues (n : StringNo) (x : Wall) (w : World) : (w.setWall n x).cues = w.cues := rfl
@[simp] theorem World.setWall_nextHandle (n : StringNo) (x : Wall) (w : World) : (w.setWall n x).nextHandle = w.nextHandle := rfl
@[simp] theorem World.setWall_cuePolicy (n : StringNo) (x : Wall) (w : World) : (w.setWall n x).cuePolicy = w.cuePolicy := rfl
@[simp] theorem World.setWall_zoneMap (n : StringNo) (x : Wall) (w : World) : (w.setWall n x).zoneMap = w.zoneMap := rfl
@[simp] theorem World.setWall_concourse (n : StringNo) (x : Wall) (w : World) : (w.setWall n x).concourse = w.concourse := rfl
@[simp] theorem World.setWall_au (n : StringNo) (x : Wall) (w : World) : (w.setWall n x).au = w.au := rfl
@[simp] theorem World.setWall_out (n : StringNo) (x : Wall) (w : World) : (w.setWall n x).out = w.out := rfl
@[simp] theorem World.setWall_agenda (n : StringNo) (x : Wall) (w : World) : (w.setWall n x).agenda = w.agenda := rfl

/-! ## `setView` -/

@[simp] theorem World.setView_services (n : StringNo) (v : View) (w : World) : (w.setView n v).services = w.services := rfl
@[simp] theorem World.setView_tableSeq (n : StringNo) (v : View) (w : World) : (w.setView n v).tableSeq = w.tableSeq := rfl
@[simp] theorem World.setView_texts (n : StringNo) (v : View) (w : World) : (w.setView n v).texts = w.texts := rfl
@[simp] theorem World.setView_freeCells (n : StringNo) (v : View) (w : World) : (w.setView n v).freeCells = w.freeCells := rfl
@[simp] theorem World.setView_notices (n : StringNo) (v : View) (w : World) : (w.setView n v).notices = w.notices := rfl
@[simp] theorem World.setView_policy (n : StringNo) (v : View) (w : World) : (w.setView n v).policy = w.policy := rfl
@[simp] theorem World.setView_views (n : StringNo) (v : View) (w : World) : (w.setView n v).views = w.views.set n v := rfl
@[simp] theorem World.setView_dueHorizon (n : StringNo) (v : View) (w : World) : (w.setView n v).dueHorizon = w.dueHorizon := rfl
@[simp] theorem World.setView_commit (n : StringNo) (v : View) (w : World) : (w.setView n v).commit = w.commit := rfl
@[simp] theorem World.setView_walls (n : StringNo) (v : View) (w : World) : (w.setView n v).walls = w.walls := rfl
@[simp] theorem World.setView_latches (n : StringNo) (v : View) (w : World) : (w.setView n v).latches = w.latches := rfl
@[simp] theorem World.setView_channels (n : StringNo) (v : View) (w : World) : (w.setView n v).channels = w.channels := rfl
@[simp] theorem World.setView_cues (n : StringNo) (v : View) (w : World) : (w.setView n v).cues = w.cues := rfl
@[simp] theorem World.setView_nextHandle (n : StringNo) (v : View) (w : World) : (w.setView n v).nextHandle = w.nextHandle := rfl
@[simp] theorem World.setView_cuePolicy (n : StringNo) (v : View) (w : World) : (w.setView n v).cuePolicy = w.cuePolicy := rfl
@[simp] theorem World.setView_zoneMap (n : StringNo) (v : View) (w : World) : (w.setView n v).zoneMap = w.zoneMap := rfl
@[simp] theorem World.setView_concourse (n : StringNo) (v : View) (w : World) : (w.setView n v).concourse = w.concourse := rfl
@[simp] theorem World.setView_au (n : StringNo) (v : View) (w : World) : (w.setView n v).au = w.au := rfl
@[simp] theorem World.setView_out (n : StringNo) (v : View) (w : World) : (w.setView n v).out = w.out := rfl
@[simp] theorem World.setView_agenda (n : StringNo) (v : View) (w : World) : (w.setView n v).agenda = w.agenda := rfl

/-! ## `setLatch` -/

@[simp] theorem World.setLatch_services (n : StringNo) (l : LatchLine) (w : World) : (w.setLatch n l).services = w.services := rfl
@[simp] theorem World.setLatch_tableSeq (n : StringNo) (l : LatchLine) (w : World) : (w.setLatch n l).tableSeq = w.tableSeq := rfl
@[simp] theorem World.setLatch_texts (n : StringNo) (l : LatchLine) (w : World) : (w.setLatch n l).texts = w.texts := rfl
@[simp] theorem World.setLatch_freeCells (n : StringNo) (l : LatchLine) (w : World) : (w.setLatch n l).freeCells = w.freeCells := rfl
@[simp] theorem World.setLatch_notices (n : StringNo) (l : LatchLine) (w : World) : (w.setLatch n l).notices = w.notices := rfl
@[simp] theorem World.setLatch_policy (n : StringNo) (l : LatchLine) (w : World) : (w.setLatch n l).policy = w.policy := rfl
@[simp] theorem World.setLatch_views (n : StringNo) (l : LatchLine) (w : World) : (w.setLatch n l).views = w.views := rfl
@[simp] theorem World.setLatch_dueHorizon (n : StringNo) (l : LatchLine) (w : World) : (w.setLatch n l).dueHorizon = w.dueHorizon := rfl
@[simp] theorem World.setLatch_commit (n : StringNo) (l : LatchLine) (w : World) : (w.setLatch n l).commit = w.commit := rfl
@[simp] theorem World.setLatch_walls (n : StringNo) (l : LatchLine) (w : World) : (w.setLatch n l).walls = w.walls := rfl
@[simp] theorem World.setLatch_latches (n : StringNo) (l : LatchLine) (w : World) : (w.setLatch n l).latches = w.latches.set n l := rfl
@[simp] theorem World.setLatch_channels (n : StringNo) (l : LatchLine) (w : World) : (w.setLatch n l).channels = w.channels := rfl
@[simp] theorem World.setLatch_cues (n : StringNo) (l : LatchLine) (w : World) : (w.setLatch n l).cues = w.cues := rfl
@[simp] theorem World.setLatch_nextHandle (n : StringNo) (l : LatchLine) (w : World) : (w.setLatch n l).nextHandle = w.nextHandle := rfl
@[simp] theorem World.setLatch_cuePolicy (n : StringNo) (l : LatchLine) (w : World) : (w.setLatch n l).cuePolicy = w.cuePolicy := rfl
@[simp] theorem World.setLatch_zoneMap (n : StringNo) (l : LatchLine) (w : World) : (w.setLatch n l).zoneMap = w.zoneMap := rfl
@[simp] theorem World.setLatch_concourse (n : StringNo) (l : LatchLine) (w : World) : (w.setLatch n l).concourse = w.concourse := rfl
@[simp] theorem World.setLatch_au (n : StringNo) (l : LatchLine) (w : World) : (w.setLatch n l).au = w.au := rfl
@[simp] theorem World.setLatch_out (n : StringNo) (l : LatchLine) (w : World) : (w.setLatch n l).out = w.out := rfl
@[simp] theorem World.setLatch_agenda (n : StringNo) (l : LatchLine) (w : World) : (w.setLatch n l).agenda = w.agenda := rfl

/-! ## `report` -/

@[simp] theorem World.report_services (r : Report) (w : World) : (w.report r).services = w.services := rfl
@[simp] theorem World.report_tableSeq (r : Report) (w : World) : (w.report r).tableSeq = w.tableSeq := rfl
@[simp] theorem World.report_texts (r : Report) (w : World) : (w.report r).texts = w.texts := rfl
@[simp] theorem World.report_freeCells (r : Report) (w : World) : (w.report r).freeCells = w.freeCells := rfl
@[simp] theorem World.report_notices (r : Report) (w : World) : (w.report r).notices = w.notices := rfl
@[simp] theorem World.report_policy (r : Report) (w : World) : (w.report r).policy = w.policy := rfl
@[simp] theorem World.report_views (r : Report) (w : World) : (w.report r).views = w.views := rfl
@[simp] theorem World.report_dueHorizon (r : Report) (w : World) : (w.report r).dueHorizon = w.dueHorizon := rfl
@[simp] theorem World.report_commit (r : Report) (w : World) : (w.report r).commit = w.commit := rfl
@[simp] theorem World.report_walls (r : Report) (w : World) : (w.report r).walls = w.walls := rfl
@[simp] theorem World.report_latches (r : Report) (w : World) : (w.report r).latches = w.latches := rfl
@[simp] theorem World.report_channels (r : Report) (w : World) : (w.report r).channels = w.channels := rfl
@[simp] theorem World.report_cues (r : Report) (w : World) : (w.report r).cues = w.cues := rfl
@[simp] theorem World.report_nextHandle (r : Report) (w : World) : (w.report r).nextHandle = w.nextHandle := rfl
@[simp] theorem World.report_cuePolicy (r : Report) (w : World) : (w.report r).cuePolicy = w.cuePolicy := rfl
@[simp] theorem World.report_zoneMap (r : Report) (w : World) : (w.report r).zoneMap = w.zoneMap := rfl
@[simp] theorem World.report_concourse (r : Report) (w : World) : (w.report r).concourse = w.concourse := rfl
@[simp] theorem World.report_au (r : Report) (w : World) : (w.report r).au = w.au := rfl
@[simp] theorem World.report_out (r : Report) (w : World) : (w.report r).out = w.out ++ [r] := rfl
@[simp] theorem World.report_agenda (r : Report) (w : World) : (w.report r).agenda = w.agenda := rfl

/-! ## `push` -/

@[simp] theorem World.push_services (t : Task) (w : World) : (w.push t).services = w.services := rfl
@[simp] theorem World.push_tableSeq (t : Task) (w : World) : (w.push t).tableSeq = w.tableSeq := rfl
@[simp] theorem World.push_texts (t : Task) (w : World) : (w.push t).texts = w.texts := rfl
@[simp] theorem World.push_freeCells (t : Task) (w : World) : (w.push t).freeCells = w.freeCells := rfl
@[simp] theorem World.push_notices (t : Task) (w : World) : (w.push t).notices = w.notices := rfl
@[simp] theorem World.push_policy (t : Task) (w : World) : (w.push t).policy = w.policy := rfl
@[simp] theorem World.push_views (t : Task) (w : World) : (w.push t).views = w.views := rfl
@[simp] theorem World.push_dueHorizon (t : Task) (w : World) : (w.push t).dueHorizon = w.dueHorizon := rfl
@[simp] theorem World.push_commit (t : Task) (w : World) : (w.push t).commit = w.commit := rfl
@[simp] theorem World.push_walls (t : Task) (w : World) : (w.push t).walls = w.walls := rfl
@[simp] theorem World.push_latches (t : Task) (w : World) : (w.push t).latches = w.latches := rfl
@[simp] theorem World.push_channels (t : Task) (w : World) : (w.push t).channels = w.channels := rfl
@[simp] theorem World.push_cues (t : Task) (w : World) : (w.push t).cues = w.cues := rfl
@[simp] theorem World.push_nextHandle (t : Task) (w : World) : (w.push t).nextHandle = w.nextHandle := rfl
@[simp] theorem World.push_cuePolicy (t : Task) (w : World) : (w.push t).cuePolicy = w.cuePolicy := rfl
@[simp] theorem World.push_zoneMap (t : Task) (w : World) : (w.push t).zoneMap = w.zoneMap := rfl
@[simp] theorem World.push_concourse (t : Task) (w : World) : (w.push t).concourse = w.concourse := rfl
@[simp] theorem World.push_au (t : Task) (w : World) : (w.push t).au = w.au := rfl
@[simp] theorem World.push_out (t : Task) (w : World) : (w.push t).out = w.out := rfl
@[simp] theorem World.push_agenda (t : Task) (w : World) : (w.push t).agenda = w.agenda ++ [t] := rfl

/-! ## `setCue` -/

@[simp] theorem World.setCue_services (c : Cue) (w : World) : (w.setCue c).services = w.services := rfl
@[simp] theorem World.setCue_tableSeq (c : Cue) (w : World) : (w.setCue c).tableSeq = w.tableSeq := rfl
@[simp] theorem World.setCue_texts (c : Cue) (w : World) : (w.setCue c).texts = w.texts := rfl
@[simp] theorem World.setCue_freeCells (c : Cue) (w : World) : (w.setCue c).freeCells = w.freeCells := rfl
@[simp] theorem World.setCue_notices (c : Cue) (w : World) : (w.setCue c).notices = w.notices := rfl
@[simp] theorem World.setCue_policy (c : Cue) (w : World) : (w.setCue c).policy = w.policy := rfl
@[simp] theorem World.setCue_views (c : Cue) (w : World) : (w.setCue c).views = w.views := rfl
@[simp] theorem World.setCue_dueHorizon (c : Cue) (w : World) : (w.setCue c).dueHorizon = w.dueHorizon := rfl
@[simp] theorem World.setCue_commit (c : Cue) (w : World) : (w.setCue c).commit = w.commit := rfl
@[simp] theorem World.setCue_walls (c : Cue) (w : World) : (w.setCue c).walls = w.walls := rfl
@[simp] theorem World.setCue_latches (c : Cue) (w : World) : (w.setCue c).latches = w.latches := rfl
@[simp] theorem World.setCue_channels (c : Cue) (w : World) : (w.setCue c).channels = w.channels := rfl
@[simp] theorem World.setCue_cues (c : Cue) (w : World) : (w.setCue c).cues = insertCue c w.cues := rfl
@[simp] theorem World.setCue_nextHandle (c : Cue) (w : World) : (w.setCue c).nextHandle = w.nextHandle := rfl
@[simp] theorem World.setCue_cuePolicy (c : Cue) (w : World) : (w.setCue c).cuePolicy = w.cuePolicy := rfl
@[simp] theorem World.setCue_zoneMap (c : Cue) (w : World) : (w.setCue c).zoneMap = w.zoneMap := rfl
@[simp] theorem World.setCue_concourse (c : Cue) (w : World) : (w.setCue c).concourse = w.concourse := rfl
@[simp] theorem World.setCue_au (c : Cue) (w : World) : (w.setCue c).au = w.au := rfl
@[simp] theorem World.setCue_out (c : Cue) (w : World) : (w.setCue c).out = w.out := rfl
@[simp] theorem World.setCue_agenda (c : Cue) (w : World) : (w.setCue c).agenda = w.agenda := rfl

/-! ## `dropCue` -/

@[simp] theorem World.dropCue_services (k : Nat) (w : World) : (w.dropCue k).services = w.services := rfl
@[simp] theorem World.dropCue_tableSeq (k : Nat) (w : World) : (w.dropCue k).tableSeq = w.tableSeq := rfl
@[simp] theorem World.dropCue_texts (k : Nat) (w : World) : (w.dropCue k).texts = w.texts := rfl
@[simp] theorem World.dropCue_freeCells (k : Nat) (w : World) : (w.dropCue k).freeCells = w.freeCells := rfl
@[simp] theorem World.dropCue_notices (k : Nat) (w : World) : (w.dropCue k).notices = w.notices := rfl
@[simp] theorem World.dropCue_policy (k : Nat) (w : World) : (w.dropCue k).policy = w.policy := rfl
@[simp] theorem World.dropCue_views (k : Nat) (w : World) : (w.dropCue k).views = w.views := rfl
@[simp] theorem World.dropCue_dueHorizon (k : Nat) (w : World) : (w.dropCue k).dueHorizon = w.dueHorizon := rfl
@[simp] theorem World.dropCue_commit (k : Nat) (w : World) : (w.dropCue k).commit = w.commit := rfl
@[simp] theorem World.dropCue_walls (k : Nat) (w : World) : (w.dropCue k).walls = w.walls := rfl
@[simp] theorem World.dropCue_latches (k : Nat) (w : World) : (w.dropCue k).latches = w.latches := rfl
@[simp] theorem World.dropCue_channels (k : Nat) (w : World) : (w.dropCue k).channels = w.channels := rfl
@[simp] theorem World.dropCue_cues (k : Nat) (w : World) : (w.dropCue k).cues = w.cues.filter (·.slot != k) := rfl
@[simp] theorem World.dropCue_nextHandle (k : Nat) (w : World) : (w.dropCue k).nextHandle = w.nextHandle := rfl
@[simp] theorem World.dropCue_cuePolicy (k : Nat) (w : World) : (w.dropCue k).cuePolicy = w.cuePolicy := rfl
@[simp] theorem World.dropCue_zoneMap (k : Nat) (w : World) : (w.dropCue k).zoneMap = w.zoneMap := rfl
@[simp] theorem World.dropCue_concourse (k : Nat) (w : World) : (w.dropCue k).concourse = w.concourse := rfl
@[simp] theorem World.dropCue_au (k : Nat) (w : World) : (w.dropCue k).au = w.au := rfl
@[simp] theorem World.dropCue_out (k : Nat) (w : World) : (w.dropCue k).out = w.out := rfl
@[simp] theorem World.dropCue_agenda (k : Nat) (w : World) : (w.dropCue k).agenda = w.agenda := rfl

/-! ## `setPlay` -/

@[simp] theorem World.setPlay_services (i : Fin 4) (x : PlayChannel) (w : World) : (w.setPlay i x).services = w.services := rfl
@[simp] theorem World.setPlay_tableSeq (i : Fin 4) (x : PlayChannel) (w : World) : (w.setPlay i x).tableSeq = w.tableSeq := rfl
@[simp] theorem World.setPlay_texts (i : Fin 4) (x : PlayChannel) (w : World) : (w.setPlay i x).texts = w.texts := rfl
@[simp] theorem World.setPlay_freeCells (i : Fin 4) (x : PlayChannel) (w : World) : (w.setPlay i x).freeCells = w.freeCells := rfl
@[simp] theorem World.setPlay_notices (i : Fin 4) (x : PlayChannel) (w : World) : (w.setPlay i x).notices = w.notices := rfl
@[simp] theorem World.setPlay_policy (i : Fin 4) (x : PlayChannel) (w : World) : (w.setPlay i x).policy = w.policy := rfl
@[simp] theorem World.setPlay_views (i : Fin 4) (x : PlayChannel) (w : World) : (w.setPlay i x).views = w.views := rfl
@[simp] theorem World.setPlay_dueHorizon (i : Fin 4) (x : PlayChannel) (w : World) : (w.setPlay i x).dueHorizon = w.dueHorizon := rfl
@[simp] theorem World.setPlay_commit (i : Fin 4) (x : PlayChannel) (w : World) : (w.setPlay i x).commit = w.commit := rfl
@[simp] theorem World.setPlay_walls (i : Fin 4) (x : PlayChannel) (w : World) : (w.setPlay i x).walls = w.walls := rfl
@[simp] theorem World.setPlay_latches (i : Fin 4) (x : PlayChannel) (w : World) : (w.setPlay i x).latches = w.latches := rfl
@[simp] theorem World.setPlay_channels (i : Fin 4) (x : PlayChannel) (w : World) : (w.setPlay i x).channels = w.channels := rfl
@[simp] theorem World.setPlay_cues (i : Fin 4) (x : PlayChannel) (w : World) : (w.setPlay i x).cues = w.cues := rfl
@[simp] theorem World.setPlay_nextHandle (i : Fin 4) (x : PlayChannel) (w : World) : (w.setPlay i x).nextHandle = w.nextHandle := rfl
@[simp] theorem World.setPlay_cuePolicy (i : Fin 4) (x : PlayChannel) (w : World) : (w.setPlay i x).cuePolicy = w.cuePolicy := rfl
@[simp] theorem World.setPlay_zoneMap (i : Fin 4) (x : PlayChannel) (w : World) : (w.setPlay i x).zoneMap = w.zoneMap := rfl
@[simp] theorem World.setPlay_concourse (i : Fin 4) (x : PlayChannel) (w : World) : (w.setPlay i x).concourse = w.concourse := rfl
@[simp] theorem World.setPlay_au (i : Fin 4) (x : PlayChannel) (w : World) : (w.setPlay i x).au = { w.au with channels := w.au.channels.set i x } := rfl
@[simp] theorem World.setPlay_out (i : Fin 4) (x : PlayChannel) (w : World) : (w.setPlay i x).out = w.out := rfl
@[simp] theorem World.setPlay_agenda (i : Fin 4) (x : PlayChannel) (w : World) : (w.setPlay i x).agenda = w.agenda := rfl

/-! ## `auSend` -/

@[simp] theorem World.auSend_services (f : AuFrame) (w : World) : (w.auSend f).services = w.services := rfl
@[simp] theorem World.auSend_tableSeq (f : AuFrame) (w : World) : (w.auSend f).tableSeq = w.tableSeq := rfl
@[simp] theorem World.auSend_texts (f : AuFrame) (w : World) : (w.auSend f).texts = w.texts := rfl
@[simp] theorem World.auSend_freeCells (f : AuFrame) (w : World) : (w.auSend f).freeCells = w.freeCells := rfl
@[simp] theorem World.auSend_notices (f : AuFrame) (w : World) : (w.auSend f).notices = w.notices := rfl
@[simp] theorem World.auSend_policy (f : AuFrame) (w : World) : (w.auSend f).policy = w.policy := rfl
@[simp] theorem World.auSend_views (f : AuFrame) (w : World) : (w.auSend f).views = w.views := rfl
@[simp] theorem World.auSend_dueHorizon (f : AuFrame) (w : World) : (w.auSend f).dueHorizon = w.dueHorizon := rfl
@[simp] theorem World.auSend_commit (f : AuFrame) (w : World) : (w.auSend f).commit = w.commit := rfl
@[simp] theorem World.auSend_walls (f : AuFrame) (w : World) : (w.auSend f).walls = w.walls := rfl
@[simp] theorem World.auSend_latches (f : AuFrame) (w : World) : (w.auSend f).latches = w.latches := rfl
@[simp] theorem World.auSend_channels (f : AuFrame) (w : World) : (w.auSend f).channels = w.channels := rfl
@[simp] theorem World.auSend_cues (f : AuFrame) (w : World) : (w.auSend f).cues = w.cues := rfl
@[simp] theorem World.auSend_nextHandle (f : AuFrame) (w : World) : (w.auSend f).nextHandle = w.nextHandle := rfl
@[simp] theorem World.auSend_cuePolicy (f : AuFrame) (w : World) : (w.auSend f).cuePolicy = w.cuePolicy := rfl
@[simp] theorem World.auSend_zoneMap (f : AuFrame) (w : World) : (w.auSend f).zoneMap = w.zoneMap := rfl
@[simp] theorem World.auSend_concourse (f : AuFrame) (w : World) : (w.auSend f).concourse = w.concourse := rfl
@[simp] theorem World.auSend_au (f : AuFrame) (w : World) : (w.auSend f).au = { w.au with made := w.au.made ++ [f] } := rfl
@[simp] theorem World.auSend_out (f : AuFrame) (w : World) : (w.auSend f).out = w.out := rfl
@[simp] theorem World.auSend_agenda (f : AuFrame) (w : World) : (w.auSend f).agenda = w.agenda := rfl

/-! ## `storeService` -/

@[simp] theorem World.storeService_services (r : Service) (w : World) : (w.storeService r).services = insertService r (dropService r.code w.services) := rfl
@[simp] theorem World.storeService_tableSeq (r : Service) (w : World) : (w.storeService r).tableSeq = w.tableSeq := rfl
@[simp] theorem World.storeService_texts (r : Service) (w : World) : (w.storeService r).texts = w.texts := rfl
@[simp] theorem World.storeService_freeCells (r : Service) (w : World) : (w.storeService r).freeCells = w.freeCells := rfl
@[simp] theorem World.storeService_notices (r : Service) (w : World) : (w.storeService r).notices = w.notices := rfl
@[simp] theorem World.storeService_policy (r : Service) (w : World) : (w.storeService r).policy = w.policy := rfl
@[simp] theorem World.storeService_views (r : Service) (w : World) : (w.storeService r).views = w.views := rfl
@[simp] theorem World.storeService_dueHorizon (r : Service) (w : World) : (w.storeService r).dueHorizon = w.dueHorizon := rfl
@[simp] theorem World.storeService_commit (r : Service) (w : World) : (w.storeService r).commit = w.commit := rfl
@[simp] theorem World.storeService_walls (r : Service) (w : World) : (w.storeService r).walls = w.walls := rfl
@[simp] theorem World.storeService_latches (r : Service) (w : World) : (w.storeService r).latches = w.latches := rfl
@[simp] theorem World.storeService_channels (r : Service) (w : World) : (w.storeService r).channels = w.channels := rfl
@[simp] theorem World.storeService_cues (r : Service) (w : World) : (w.storeService r).cues = w.cues := rfl
@[simp] theorem World.storeService_nextHandle (r : Service) (w : World) : (w.storeService r).nextHandle = w.nextHandle := rfl
@[simp] theorem World.storeService_cuePolicy (r : Service) (w : World) : (w.storeService r).cuePolicy = w.cuePolicy := rfl
@[simp] theorem World.storeService_zoneMap (r : Service) (w : World) : (w.storeService r).zoneMap = w.zoneMap := rfl
@[simp] theorem World.storeService_concourse (r : Service) (w : World) : (w.storeService r).concourse = w.concourse := rfl
@[simp] theorem World.storeService_au (r : Service) (w : World) : (w.storeService r).au = w.au := rfl
@[simp] theorem World.storeService_out (r : Service) (w : World) : (w.storeService r).out = w.out := rfl
@[simp] theorem World.storeService_agenda (r : Service) (w : World) : (w.storeService r).agenda = w.agenda := rfl

/-! ## `claim` -/

@[simp] theorem World.claim_services (l : List Nat) (w : World) : (w.claim l).services = w.services := rfl
@[simp] theorem World.claim_tableSeq (l : List Nat) (w : World) : (w.claim l).tableSeq = w.tableSeq := rfl
@[simp] theorem World.claim_texts (l : List Nat) (w : World) : (w.claim l).texts = l.foldl (fun t i => addUse i t) w.texts := rfl
@[simp] theorem World.claim_freeCells (l : List Nat) (w : World) : (w.claim l).freeCells = w.freeCells := rfl
@[simp] theorem World.claim_notices (l : List Nat) (w : World) : (w.claim l).notices = w.notices := rfl
@[simp] theorem World.claim_policy (l : List Nat) (w : World) : (w.claim l).policy = w.policy := rfl
@[simp] theorem World.claim_views (l : List Nat) (w : World) : (w.claim l).views = w.views := rfl
@[simp] theorem World.claim_dueHorizon (l : List Nat) (w : World) : (w.claim l).dueHorizon = w.dueHorizon := rfl
@[simp] theorem World.claim_commit (l : List Nat) (w : World) : (w.claim l).commit = w.commit := rfl
@[simp] theorem World.claim_walls (l : List Nat) (w : World) : (w.claim l).walls = w.walls := rfl
@[simp] theorem World.claim_latches (l : List Nat) (w : World) : (w.claim l).latches = w.latches := rfl
@[simp] theorem World.claim_channels (l : List Nat) (w : World) : (w.claim l).channels = w.channels := rfl
@[simp] theorem World.claim_cues (l : List Nat) (w : World) : (w.claim l).cues = w.cues := rfl
@[simp] theorem World.claim_nextHandle (l : List Nat) (w : World) : (w.claim l).nextHandle = w.nextHandle := rfl
@[simp] theorem World.claim_cuePolicy (l : List Nat) (w : World) : (w.claim l).cuePolicy = w.cuePolicy := rfl
@[simp] theorem World.claim_zoneMap (l : List Nat) (w : World) : (w.claim l).zoneMap = w.zoneMap := rfl
@[simp] theorem World.claim_concourse (l : List Nat) (w : World) : (w.claim l).concourse = w.concourse := rfl
@[simp] theorem World.claim_au (l : List Nat) (w : World) : (w.claim l).au = w.au := rfl
@[simp] theorem World.claim_out (l : List Nat) (w : World) : (w.claim l).out = w.out := rfl
@[simp] theorem World.claim_agenda (l : List Nat) (w : World) : (w.claim l).agenda = w.agenda := rfl

/-! ## `release` -/

@[simp] theorem World.release_services (l : List Nat) (w : World) : (w.release l).services = w.services := rfl
@[simp] theorem World.release_tableSeq (l : List Nat) (w : World) : (w.release l).tableSeq = w.tableSeq := rfl
@[simp] theorem World.release_texts (l : List Nat) (w : World) : (w.release l).texts = l.foldl (fun t i => dropUse i t) w.texts := rfl
@[simp] theorem World.release_freeCells (l : List Nat) (w : World) : (w.release l).freeCells = w.freeCells := rfl
@[simp] theorem World.release_notices (l : List Nat) (w : World) : (w.release l).notices = w.notices := rfl
@[simp] theorem World.release_policy (l : List Nat) (w : World) : (w.release l).policy = w.policy := rfl
@[simp] theorem World.release_views (l : List Nat) (w : World) : (w.release l).views = w.views := rfl
@[simp] theorem World.release_dueHorizon (l : List Nat) (w : World) : (w.release l).dueHorizon = w.dueHorizon := rfl
@[simp] theorem World.release_commit (l : List Nat) (w : World) : (w.release l).commit = w.commit := rfl
@[simp] theorem World.release_walls (l : List Nat) (w : World) : (w.release l).walls = w.walls := rfl
@[simp] theorem World.release_latches (l : List Nat) (w : World) : (w.release l).latches = w.latches := rfl
@[simp] theorem World.release_channels (l : List Nat) (w : World) : (w.release l).channels = w.channels := rfl
@[simp] theorem World.release_cues (l : List Nat) (w : World) : (w.release l).cues = w.cues := rfl
@[simp] theorem World.release_nextHandle (l : List Nat) (w : World) : (w.release l).nextHandle = w.nextHandle := rfl
@[simp] theorem World.release_cuePolicy (l : List Nat) (w : World) : (w.release l).cuePolicy = w.cuePolicy := rfl
@[simp] theorem World.release_zoneMap (l : List Nat) (w : World) : (w.release l).zoneMap = w.zoneMap := rfl
@[simp] theorem World.release_concourse (l : List Nat) (w : World) : (w.release l).concourse = w.concourse := rfl
@[simp] theorem World.release_au (l : List Nat) (w : World) : (w.release l).au = w.au := rfl
@[simp] theorem World.release_out (l : List Nat) (w : World) : (w.release l).out = w.out := rfl
@[simp] theorem World.release_agenda (l : List Nat) (w : World) : (w.release l).agenda = w.agenda := rfl

/-! ## `tellMade` -/

@[simp] theorem World.tellMade_services (code h : Nat) (w : World) : (w.tellMade code h).services = updateWhere (·.code == code) (fun r => { r with changeCue := some { handle := h, heard := false } }) w.services := rfl
@[simp] theorem World.tellMade_tableSeq (code h : Nat) (w : World) : (w.tellMade code h).tableSeq = w.tableSeq := rfl
@[simp] theorem World.tellMade_texts (code h : Nat) (w : World) : (w.tellMade code h).texts = w.texts := rfl
@[simp] theorem World.tellMade_freeCells (code h : Nat) (w : World) : (w.tellMade code h).freeCells = w.freeCells := rfl
@[simp] theorem World.tellMade_notices (code h : Nat) (w : World) : (w.tellMade code h).notices = w.notices := rfl
@[simp] theorem World.tellMade_policy (code h : Nat) (w : World) : (w.tellMade code h).policy = w.policy := rfl
@[simp] theorem World.tellMade_views (code h : Nat) (w : World) : (w.tellMade code h).views = w.views := rfl
@[simp] theorem World.tellMade_dueHorizon (code h : Nat) (w : World) : (w.tellMade code h).dueHorizon = w.dueHorizon := rfl
@[simp] theorem World.tellMade_commit (code h : Nat) (w : World) : (w.tellMade code h).commit = w.commit := rfl
@[simp] theorem World.tellMade_walls (code h : Nat) (w : World) : (w.tellMade code h).walls = w.walls := rfl
@[simp] theorem World.tellMade_latches (code h : Nat) (w : World) : (w.tellMade code h).latches = w.latches := rfl
@[simp] theorem World.tellMade_channels (code h : Nat) (w : World) : (w.tellMade code h).channels = w.channels := rfl
@[simp] theorem World.tellMade_cues (code h : Nat) (w : World) : (w.tellMade code h).cues = w.cues := rfl
@[simp] theorem World.tellMade_nextHandle (code h : Nat) (w : World) : (w.tellMade code h).nextHandle = w.nextHandle := rfl
@[simp] theorem World.tellMade_cuePolicy (code h : Nat) (w : World) : (w.tellMade code h).cuePolicy = w.cuePolicy := rfl
@[simp] theorem World.tellMade_zoneMap (code h : Nat) (w : World) : (w.tellMade code h).zoneMap = w.zoneMap := rfl
@[simp] theorem World.tellMade_concourse (code h : Nat) (w : World) : (w.tellMade code h).concourse = w.concourse := rfl
@[simp] theorem World.tellMade_au (code h : Nat) (w : World) : (w.tellMade code h).au = w.au := rfl
@[simp] theorem World.tellMade_out (code h : Nat) (w : World) : (w.tellMade code h).out = w.out := rfl
@[simp] theorem World.tellMade_agenda (code h : Nat) (w : World) : (w.tellMade code h).agenda = w.agenda := rfl

/-! ## `raise` -/

@[simp] theorem World.raise_services (p : Cue → Bool) (rev : Seq) (w : World) : (w.raise p rev).services = w.services := rfl
@[simp] theorem World.raise_tableSeq (p : Cue → Bool) (rev : Seq) (w : World) : (w.raise p rev).tableSeq = w.tableSeq := rfl
@[simp] theorem World.raise_texts (p : Cue → Bool) (rev : Seq) (w : World) : (w.raise p rev).texts = w.texts := rfl
@[simp] theorem World.raise_freeCells (p : Cue → Bool) (rev : Seq) (w : World) : (w.raise p rev).freeCells = w.freeCells := rfl
@[simp] theorem World.raise_notices (p : Cue → Bool) (rev : Seq) (w : World) : (w.raise p rev).notices = w.notices := rfl
@[simp] theorem World.raise_policy (p : Cue → Bool) (rev : Seq) (w : World) : (w.raise p rev).policy = w.policy := rfl
@[simp] theorem World.raise_views (p : Cue → Bool) (rev : Seq) (w : World) : (w.raise p rev).views = w.views := rfl
@[simp] theorem World.raise_dueHorizon (p : Cue → Bool) (rev : Seq) (w : World) : (w.raise p rev).dueHorizon = w.dueHorizon := rfl
@[simp] theorem World.raise_commit (p : Cue → Bool) (rev : Seq) (w : World) : (w.raise p rev).commit = w.commit := rfl
@[simp] theorem World.raise_walls (p : Cue → Bool) (rev : Seq) (w : World) : (w.raise p rev).walls = w.walls := rfl
@[simp] theorem World.raise_latches (p : Cue → Bool) (rev : Seq) (w : World) : (w.raise p rev).latches = w.latches := rfl
@[simp] theorem World.raise_channels (p : Cue → Bool) (rev : Seq) (w : World) : (w.raise p rev).channels = w.channels := rfl
@[simp] theorem World.raise_cues (p : Cue → Bool) (rev : Seq) (w : World) : (w.raise p rev).cues = updateWhere (fun c => c.state == .pendingWall && p c) (fun c => { c with seq := rev }) w.cues := rfl
@[simp] theorem World.raise_nextHandle (p : Cue → Bool) (rev : Seq) (w : World) : (w.raise p rev).nextHandle = w.nextHandle := rfl
@[simp] theorem World.raise_cuePolicy (p : Cue → Bool) (rev : Seq) (w : World) : (w.raise p rev).cuePolicy = w.cuePolicy := rfl
@[simp] theorem World.raise_zoneMap (p : Cue → Bool) (rev : Seq) (w : World) : (w.raise p rev).zoneMap = w.zoneMap := rfl
@[simp] theorem World.raise_concourse (p : Cue → Bool) (rev : Seq) (w : World) : (w.raise p rev).concourse = w.concourse := rfl
@[simp] theorem World.raise_au (p : Cue → Bool) (rev : Seq) (w : World) : (w.raise p rev).au = w.au := rfl
@[simp] theorem World.raise_out (p : Cue → Bool) (rev : Seq) (w : World) : (w.raise p rev).out = w.out := rfl
@[simp] theorem World.raise_agenda (p : Cue → Bool) (rev : Seq) (w : World) : (w.raise p rev).agenda = w.agenda := rfl

/-! ## `emptyTables` -/

@[simp] theorem World.emptyTables_services (w : World) : w.emptyTables.services = [] := rfl
@[simp] theorem World.emptyTables_tableSeq (w : World) : w.emptyTables.tableSeq = 0 := rfl
@[simp] theorem World.emptyTables_texts (w : World) : w.emptyTables.texts = [] := rfl
@[simp] theorem World.emptyTables_freeCells (w : World) : w.emptyTables.freeCells = Config.poolCells := rfl
@[simp] theorem World.emptyTables_notices (w : World) : w.emptyTables.notices = [] := rfl
@[simp] theorem World.emptyTables_policy (w : World) : w.emptyTables.policy = w.policy := rfl
@[simp] theorem World.emptyTables_views (w : World) : w.emptyTables.views = w.views := rfl
@[simp] theorem World.emptyTables_dueHorizon (w : World) : w.emptyTables.dueHorizon = w.dueHorizon := rfl
@[simp] theorem World.emptyTables_commit (w : World) : w.emptyTables.commit = w.commit := rfl
@[simp] theorem World.emptyTables_walls (w : World) : w.emptyTables.walls = w.walls := rfl
@[simp] theorem World.emptyTables_latches (w : World) : w.emptyTables.latches = w.latches := rfl
@[simp] theorem World.emptyTables_channels (w : World) : w.emptyTables.channels = w.channels := rfl
@[simp] theorem World.emptyTables_cues (w : World) : w.emptyTables.cues = w.cues := rfl
@[simp] theorem World.emptyTables_nextHandle (w : World) : w.emptyTables.nextHandle = w.nextHandle := rfl
@[simp] theorem World.emptyTables_cuePolicy (w : World) : w.emptyTables.cuePolicy = w.cuePolicy := rfl
@[simp] theorem World.emptyTables_zoneMap (w : World) : w.emptyTables.zoneMap = w.zoneMap := rfl
@[simp] theorem World.emptyTables_concourse (w : World) : w.emptyTables.concourse = w.concourse := rfl
@[simp] theorem World.emptyTables_au (w : World) : w.emptyTables.au = w.au := rfl
@[simp] theorem World.emptyTables_out (w : World) : w.emptyTables.out = w.out := rfl
@[simp] theorem World.emptyTables_agenda (w : World) : w.emptyTables.agenda = w.agenda := rfl

/-! ## `fresh` -/

@[simp] theorem World.fresh_services (w : World) : w.fresh.services = w.services := rfl
@[simp] theorem World.fresh_tableSeq (w : World) : w.fresh.tableSeq = w.tableSeq := rfl
@[simp] theorem World.fresh_texts (w : World) : w.fresh.texts = w.texts := rfl
@[simp] theorem World.fresh_freeCells (w : World) : w.fresh.freeCells = w.freeCells := rfl
@[simp] theorem World.fresh_notices (w : World) : w.fresh.notices = w.notices := rfl
@[simp] theorem World.fresh_policy (w : World) : w.fresh.policy = w.policy := rfl
@[simp] theorem World.fresh_views (w : World) : w.fresh.views = w.views := rfl
@[simp] theorem World.fresh_dueHorizon (w : World) : w.fresh.dueHorizon = w.dueHorizon := rfl
@[simp] theorem World.fresh_commit (w : World) : w.fresh.commit = w.commit := rfl
@[simp] theorem World.fresh_walls (w : World) : w.fresh.walls = w.walls := rfl
@[simp] theorem World.fresh_latches (w : World) : w.fresh.latches = w.latches := rfl
@[simp] theorem World.fresh_channels (w : World) : w.fresh.channels = w.channels := rfl
@[simp] theorem World.fresh_cues (w : World) : w.fresh.cues = w.cues := rfl
@[simp] theorem World.fresh_nextHandle (w : World) : w.fresh.nextHandle = w.nextHandle := rfl
@[simp] theorem World.fresh_cuePolicy (w : World) : w.fresh.cuePolicy = w.cuePolicy := rfl
@[simp] theorem World.fresh_zoneMap (w : World) : w.fresh.zoneMap = w.zoneMap := rfl
@[simp] theorem World.fresh_concourse (w : World) : w.fresh.concourse = w.concourse := rfl
@[simp] theorem World.fresh_au (w : World) : w.fresh.au = { w.au with made := [] } := rfl
@[simp] theorem World.fresh_out (w : World) : w.fresh.out = [] := rfl
@[simp] theorem World.fresh_agenda (w : World) : w.fresh.agenda = [] := rfl

/-! ## `badFrame` -/

@[simp] theorem World.badFrame_services (w : World) : w.badFrame.services = w.services := rfl
@[simp] theorem World.badFrame_tableSeq (w : World) : w.badFrame.tableSeq = w.tableSeq := rfl
@[simp] theorem World.badFrame_texts (w : World) : w.badFrame.texts = w.texts := rfl
@[simp] theorem World.badFrame_freeCells (w : World) : w.badFrame.freeCells = w.freeCells := rfl
@[simp] theorem World.badFrame_notices (w : World) : w.badFrame.notices = w.notices := rfl
@[simp] theorem World.badFrame_policy (w : World) : w.badFrame.policy = w.policy := rfl
@[simp] theorem World.badFrame_views (w : World) : w.badFrame.views = w.views := rfl
@[simp] theorem World.badFrame_dueHorizon (w : World) : w.badFrame.dueHorizon = w.dueHorizon := rfl
@[simp] theorem World.badFrame_commit (w : World) : w.badFrame.commit = w.commit := rfl
@[simp] theorem World.badFrame_walls (w : World) : w.badFrame.walls = w.walls := rfl
@[simp] theorem World.badFrame_latches (w : World) : w.badFrame.latches = w.latches := rfl
@[simp] theorem World.badFrame_channels (w : World) : w.badFrame.channels = w.channels := rfl
@[simp] theorem World.badFrame_cues (w : World) : w.badFrame.cues = w.cues := rfl
@[simp] theorem World.badFrame_nextHandle (w : World) : w.badFrame.nextHandle = w.nextHandle := rfl
@[simp] theorem World.badFrame_cuePolicy (w : World) : w.badFrame.cuePolicy = w.cuePolicy := rfl
@[simp] theorem World.badFrame_zoneMap (w : World) : w.badFrame.zoneMap = w.zoneMap := rfl
@[simp] theorem World.badFrame_concourse (w : World) : w.badFrame.concourse = w.concourse := rfl
@[simp] theorem World.badFrame_au (w : World) : w.badFrame.au = { w.au with discarded := satSucc w.au.discarded } := rfl
@[simp] theorem World.badFrame_out (w : World) : w.badFrame.out = w.out := rfl
@[simp] theorem World.badFrame_agenda (w : World) : w.badFrame.agenda = w.agenda := rfl

/-! ## `setRx` -/

@[simp] theorem World.setRx_services (rx : Receiver) (rxAt : Option Nat) (w : World) : (w.setRx rx rxAt).services = w.services := rfl
@[simp] theorem World.setRx_tableSeq (rx : Receiver) (rxAt : Option Nat) (w : World) : (w.setRx rx rxAt).tableSeq = w.tableSeq := rfl
@[simp] theorem World.setRx_texts (rx : Receiver) (rxAt : Option Nat) (w : World) : (w.setRx rx rxAt).texts = w.texts := rfl
@[simp] theorem World.setRx_freeCells (rx : Receiver) (rxAt : Option Nat) (w : World) : (w.setRx rx rxAt).freeCells = w.freeCells := rfl
@[simp] theorem World.setRx_notices (rx : Receiver) (rxAt : Option Nat) (w : World) : (w.setRx rx rxAt).notices = w.notices := rfl
@[simp] theorem World.setRx_policy (rx : Receiver) (rxAt : Option Nat) (w : World) : (w.setRx rx rxAt).policy = w.policy := rfl
@[simp] theorem World.setRx_views (rx : Receiver) (rxAt : Option Nat) (w : World) : (w.setRx rx rxAt).views = w.views := rfl
@[simp] theorem World.setRx_dueHorizon (rx : Receiver) (rxAt : Option Nat) (w : World) : (w.setRx rx rxAt).dueHorizon = w.dueHorizon := rfl
@[simp] theorem World.setRx_commit (rx : Receiver) (rxAt : Option Nat) (w : World) : (w.setRx rx rxAt).commit = w.commit := rfl
@[simp] theorem World.setRx_walls (rx : Receiver) (rxAt : Option Nat) (w : World) : (w.setRx rx rxAt).walls = w.walls := rfl
@[simp] theorem World.setRx_latches (rx : Receiver) (rxAt : Option Nat) (w : World) : (w.setRx rx rxAt).latches = w.latches := rfl
@[simp] theorem World.setRx_channels (rx : Receiver) (rxAt : Option Nat) (w : World) : (w.setRx rx rxAt).channels = w.channels := rfl
@[simp] theorem World.setRx_cues (rx : Receiver) (rxAt : Option Nat) (w : World) : (w.setRx rx rxAt).cues = w.cues := rfl
@[simp] theorem World.setRx_nextHandle (rx : Receiver) (rxAt : Option Nat) (w : World) : (w.setRx rx rxAt).nextHandle = w.nextHandle := rfl
@[simp] theorem World.setRx_cuePolicy (rx : Receiver) (rxAt : Option Nat) (w : World) : (w.setRx rx rxAt).cuePolicy = w.cuePolicy := rfl
@[simp] theorem World.setRx_zoneMap (rx : Receiver) (rxAt : Option Nat) (w : World) : (w.setRx rx rxAt).zoneMap = w.zoneMap := rfl
@[simp] theorem World.setRx_concourse (rx : Receiver) (rxAt : Option Nat) (w : World) : (w.setRx rx rxAt).concourse = w.concourse := rfl
@[simp] theorem World.setRx_au (rx : Receiver) (rxAt : Option Nat) (w : World) : (w.setRx rx rxAt).au = { w.au with rx, rxAt } := rfl
@[simp] theorem World.setRx_out (rx : Receiver) (rxAt : Option Nat) (w : World) : (w.setRx rx rxAt).out = w.out := rfl
@[simp] theorem World.setRx_agenda (rx : Receiver) (rxAt : Option Nat) (w : World) : (w.setRx rx rxAt).agenda = w.agenda := rfl

/-! ## `stray` -/

@[simp] theorem World.stray_services (w : World) : w.stray.services = w.services := rfl
@[simp] theorem World.stray_tableSeq (w : World) : w.stray.tableSeq = w.tableSeq := rfl
@[simp] theorem World.stray_texts (w : World) : w.stray.texts = w.texts := rfl
@[simp] theorem World.stray_freeCells (w : World) : w.stray.freeCells = w.freeCells := rfl
@[simp] theorem World.stray_notices (w : World) : w.stray.notices = w.notices := rfl
@[simp] theorem World.stray_policy (w : World) : w.stray.policy = w.policy := rfl
@[simp] theorem World.stray_views (w : World) : w.stray.views = w.views := rfl
@[simp] theorem World.stray_dueHorizon (w : World) : w.stray.dueHorizon = w.dueHorizon := rfl
@[simp] theorem World.stray_commit (w : World) : w.stray.commit = w.commit := rfl
@[simp] theorem World.stray_walls (w : World) : w.stray.walls = w.walls := rfl
@[simp] theorem World.stray_latches (w : World) : w.stray.latches = w.latches := rfl
@[simp] theorem World.stray_channels (w : World) : w.stray.channels = w.channels := rfl
@[simp] theorem World.stray_cues (w : World) : w.stray.cues = w.cues := rfl
@[simp] theorem World.stray_nextHandle (w : World) : w.stray.nextHandle = w.nextHandle := rfl
@[simp] theorem World.stray_cuePolicy (w : World) : w.stray.cuePolicy = w.cuePolicy := rfl
@[simp] theorem World.stray_zoneMap (w : World) : w.stray.zoneMap = w.zoneMap := rfl
@[simp] theorem World.stray_concourse (w : World) : w.stray.concourse = w.concourse := rfl
@[simp] theorem World.stray_au (w : World) : w.stray.au = { w.au with stray := satSucc w.au.stray } := rfl
@[simp] theorem World.stray_out (w : World) : w.stray.out = w.out := rfl
@[simp] theorem World.stray_agenda (w : World) : w.stray.agenda = w.agenda := rfl

/-! ## The records of one string, line or slave clock line -/

theorem World.channel_def (w : World) (n : StringNo) : w.channel n = w.channels[n] := rfl
theorem World.wall_def (w : World) (n : StringNo) : w.wall n = w.walls[n] := rfl
theorem World.view_def (w : World) (n : StringNo) : w.view n = w.views[n] := rfl
theorem World.latch_def (w : World) (n : StringNo) : w.latch n = w.latches[n] := rfl

/-- Reading the channel of a string after writing one. -/
@[simp] theorem World.setChannel_channel (w : World) (n m : StringNo) (x) :
    (w.setChannel n x).channel m = if n = m then x else w.channel m := by
  simp only [World.channel, World.setChannel, Fin.getElem_fin, Vector.getElem_set, Fin.val_inj]

@[simp] theorem World.setChannel_same (w : World) (n : StringNo) : w.setChannel n (w.channel n) = w := by
  simp [World.setChannel, World.channel]

@[simp] theorem World.setChannel_setChannel (w : World) (n : StringNo) (x y) :
    (w.setChannel n x).setChannel n y = w.setChannel n y := by
  simp [World.setChannel]

/-- Reading the wall of a string after writing one. -/
@[simp] theorem World.setWall_wall (w : World) (n m : StringNo) (x) :
    (w.setWall n x).wall m = if n = m then x else w.wall m := by
  simp only [World.wall, World.setWall, Fin.getElem_fin, Vector.getElem_set, Fin.val_inj]

@[simp] theorem World.setWall_same (w : World) (n : StringNo) : w.setWall n (w.wall n) = w := by
  simp [World.setWall, World.wall]

@[simp] theorem World.setWall_setWall (w : World) (n : StringNo) (x y) :
    (w.setWall n x).setWall n y = w.setWall n y := by
  simp [World.setWall]

/-- Reading the view of a string after writing one. -/
@[simp] theorem World.setView_view (w : World) (n m : StringNo) (x) :
    (w.setView n x).view m = if n = m then x else w.view m := by
  simp only [World.view, World.setView, Fin.getElem_fin, Vector.getElem_set, Fin.val_inj]

@[simp] theorem World.setView_same (w : World) (n : StringNo) : w.setView n (w.view n) = w := by
  simp [World.setView, World.view]

@[simp] theorem World.setView_setView (w : World) (n : StringNo) (x y) :
    (w.setView n x).setView n y = w.setView n y := by
  simp [World.setView]

/-- Reading the latch of a string after writing one. -/
@[simp] theorem World.setLatch_latch (w : World) (n m : StringNo) (x) :
    (w.setLatch n x).latch m = if n = m then x else w.latch m := by
  simp only [World.latch, World.setLatch, Fin.getElem_fin, Vector.getElem_set, Fin.val_inj]

@[simp] theorem World.setLatch_same (w : World) (n : StringNo) : w.setLatch n (w.latch n) = w := by
  simp [World.setLatch, World.latch]

@[simp] theorem World.setLatch_setLatch (w : World) (n : StringNo) (x y) :
    (w.setLatch n x).setLatch n y = w.setLatch n y := by
  simp [World.setLatch]

@[simp] theorem World.setChannel_wall (n : StringNo) (c : Channel) (w : World) (m : StringNo) : (w.setChannel n c).wall m = w.wall m := rfl
@[simp] theorem World.setChannel_view (n : StringNo) (c : Channel) (w : World) (m : StringNo) : (w.setChannel n c).view m = w.view m := rfl
@[simp] theorem World.setChannel_latch (n : StringNo) (c : Channel) (w : World) (m : StringNo) : (w.setChannel n c).latch m = w.latch m := rfl
@[simp] theorem World.setWall_channel (n : StringNo) (x : Wall) (w : World) (m : StringNo) : (w.setWall n x).channel m = w.channel m := rfl
@[simp] theorem World.setWall_view (n : StringNo) (x : Wall) (w : World) (m : StringNo) : (w.setWall n x).view m = w.view m := rfl
@[simp] theorem World.setWall_latch (n : StringNo) (x : Wall) (w : World) (m : StringNo) : (w.setWall n x).latch m = w.latch m := rfl
@[simp] theorem World.setView_channel (n : StringNo) (v : View) (w : World) (m : StringNo) : (w.setView n v).channel m = w.channel m := rfl
@[simp] theorem World.setView_wall (n : StringNo) (v : View) (w : World) (m : StringNo) : (w.setView n v).wall m = w.wall m := rfl
@[simp] theorem World.setView_latch (n : StringNo) (v : View) (w : World) (m : StringNo) : (w.setView n v).latch m = w.latch m := rfl
@[simp] theorem World.setLatch_channel (n : StringNo) (l : LatchLine) (w : World) (m : StringNo) : (w.setLatch n l).channel m = w.channel m := rfl
@[simp] theorem World.setLatch_wall (n : StringNo) (l : LatchLine) (w : World) (m : StringNo) : (w.setLatch n l).wall m = w.wall m := rfl
@[simp] theorem World.setLatch_view (n : StringNo) (l : LatchLine) (w : World) (m : StringNo) : (w.setLatch n l).view m = w.view m := rfl
@[simp] theorem World.report_channel (r : Report) (w : World) (m : StringNo) : (w.report r).channel m = w.channel m := rfl
@[simp] theorem World.report_wall (r : Report) (w : World) (m : StringNo) : (w.report r).wall m = w.wall m := rfl
@[simp] theorem World.report_view (r : Report) (w : World) (m : StringNo) : (w.report r).view m = w.view m := rfl
@[simp] theorem World.report_latch (r : Report) (w : World) (m : StringNo) : (w.report r).latch m = w.latch m := rfl
@[simp] theorem World.push_channel (t : Task) (w : World) (m : StringNo) : (w.push t).channel m = w.channel m := rfl
@[simp] theorem World.push_wall (t : Task) (w : World) (m : StringNo) : (w.push t).wall m = w.wall m := rfl
@[simp] theorem World.push_view (t : Task) (w : World) (m : StringNo) : (w.push t).view m = w.view m := rfl
@[simp] theorem World.push_latch (t : Task) (w : World) (m : StringNo) : (w.push t).latch m = w.latch m := rfl
@[simp] theorem World.setCue_channel (c : Cue) (w : World) (m : StringNo) : (w.setCue c).channel m = w.channel m := rfl
@[simp] theorem World.setCue_wall (c : Cue) (w : World) (m : StringNo) : (w.setCue c).wall m = w.wall m := rfl
@[simp] theorem World.setCue_view (c : Cue) (w : World) (m : StringNo) : (w.setCue c).view m = w.view m := rfl
@[simp] theorem World.setCue_latch (c : Cue) (w : World) (m : StringNo) : (w.setCue c).latch m = w.latch m := rfl
@[simp] theorem World.dropCue_channel (k : Nat) (w : World) (m : StringNo) : (w.dropCue k).channel m = w.channel m := rfl
@[simp] theorem World.dropCue_wall (k : Nat) (w : World) (m : StringNo) : (w.dropCue k).wall m = w.wall m := rfl
@[simp] theorem World.dropCue_view (k : Nat) (w : World) (m : StringNo) : (w.dropCue k).view m = w.view m := rfl
@[simp] theorem World.dropCue_latch (k : Nat) (w : World) (m : StringNo) : (w.dropCue k).latch m = w.latch m := rfl
@[simp] theorem World.setPlay_channel (i : Fin 4) (x : PlayChannel) (w : World) (m : StringNo) : (w.setPlay i x).channel m = w.channel m := rfl
@[simp] theorem World.setPlay_wall (i : Fin 4) (x : PlayChannel) (w : World) (m : StringNo) : (w.setPlay i x).wall m = w.wall m := rfl
@[simp] theorem World.setPlay_view (i : Fin 4) (x : PlayChannel) (w : World) (m : StringNo) : (w.setPlay i x).view m = w.view m := rfl
@[simp] theorem World.setPlay_latch (i : Fin 4) (x : PlayChannel) (w : World) (m : StringNo) : (w.setPlay i x).latch m = w.latch m := rfl
@[simp] theorem World.auSend_channel (f : AuFrame) (w : World) (m : StringNo) : (w.auSend f).channel m = w.channel m := rfl
@[simp] theorem World.auSend_wall (f : AuFrame) (w : World) (m : StringNo) : (w.auSend f).wall m = w.wall m := rfl
@[simp] theorem World.auSend_view (f : AuFrame) (w : World) (m : StringNo) : (w.auSend f).view m = w.view m := rfl
@[simp] theorem World.auSend_latch (f : AuFrame) (w : World) (m : StringNo) : (w.auSend f).latch m = w.latch m := rfl
@[simp] theorem World.storeService_channel (r : Service) (w : World) (m : StringNo) : (w.storeService r).channel m = w.channel m := rfl
@[simp] theorem World.storeService_wall (r : Service) (w : World) (m : StringNo) : (w.storeService r).wall m = w.wall m := rfl
@[simp] theorem World.storeService_view (r : Service) (w : World) (m : StringNo) : (w.storeService r).view m = w.view m := rfl
@[simp] theorem World.storeService_latch (r : Service) (w : World) (m : StringNo) : (w.storeService r).latch m = w.latch m := rfl
@[simp] theorem World.claim_channel (l : List Nat) (w : World) (m : StringNo) : (w.claim l).channel m = w.channel m := rfl
@[simp] theorem World.claim_wall (l : List Nat) (w : World) (m : StringNo) : (w.claim l).wall m = w.wall m := rfl
@[simp] theorem World.claim_view (l : List Nat) (w : World) (m : StringNo) : (w.claim l).view m = w.view m := rfl
@[simp] theorem World.claim_latch (l : List Nat) (w : World) (m : StringNo) : (w.claim l).latch m = w.latch m := rfl
@[simp] theorem World.release_channel (l : List Nat) (w : World) (m : StringNo) : (w.release l).channel m = w.channel m := rfl
@[simp] theorem World.release_wall (l : List Nat) (w : World) (m : StringNo) : (w.release l).wall m = w.wall m := rfl
@[simp] theorem World.release_view (l : List Nat) (w : World) (m : StringNo) : (w.release l).view m = w.view m := rfl
@[simp] theorem World.release_latch (l : List Nat) (w : World) (m : StringNo) : (w.release l).latch m = w.latch m := rfl
@[simp] theorem World.tellMade_channel (code h : Nat) (w : World) (m : StringNo) : (w.tellMade code h).channel m = w.channel m := rfl
@[simp] theorem World.tellMade_wall (code h : Nat) (w : World) (m : StringNo) : (w.tellMade code h).wall m = w.wall m := rfl
@[simp] theorem World.tellMade_view (code h : Nat) (w : World) (m : StringNo) : (w.tellMade code h).view m = w.view m := rfl
@[simp] theorem World.tellMade_latch (code h : Nat) (w : World) (m : StringNo) : (w.tellMade code h).latch m = w.latch m := rfl
@[simp] theorem World.raise_channel (p : Cue → Bool) (rev : Seq) (w : World) (m : StringNo) : (w.raise p rev).channel m = w.channel m := rfl
@[simp] theorem World.raise_wall (p : Cue → Bool) (rev : Seq) (w : World) (m : StringNo) : (w.raise p rev).wall m = w.wall m := rfl
@[simp] theorem World.raise_view (p : Cue → Bool) (rev : Seq) (w : World) (m : StringNo) : (w.raise p rev).view m = w.view m := rfl
@[simp] theorem World.raise_latch (p : Cue → Bool) (rev : Seq) (w : World) (m : StringNo) : (w.raise p rev).latch m = w.latch m := rfl
@[simp] theorem World.emptyTables_channel (w : World) (m : StringNo) : (w.emptyTables).channel m = w.channel m := rfl
@[simp] theorem World.emptyTables_wall (w : World) (m : StringNo) : (w.emptyTables).wall m = w.wall m := rfl
@[simp] theorem World.emptyTables_view (w : World) (m : StringNo) : (w.emptyTables).view m = w.view m := rfl
@[simp] theorem World.emptyTables_latch (w : World) (m : StringNo) : (w.emptyTables).latch m = w.latch m := rfl
@[simp] theorem World.fresh_channel (w : World) (m : StringNo) : (w.fresh).channel m = w.channel m := rfl
@[simp] theorem World.fresh_wall (w : World) (m : StringNo) : (w.fresh).wall m = w.wall m := rfl
@[simp] theorem World.fresh_view (w : World) (m : StringNo) : (w.fresh).view m = w.view m := rfl
@[simp] theorem World.fresh_latch (w : World) (m : StringNo) : (w.fresh).latch m = w.latch m := rfl
@[simp] theorem World.badFrame_channel (w : World) (m : StringNo) : (w.badFrame).channel m = w.channel m := rfl
@[simp] theorem World.setRx_channel (rx : Receiver) (rxAt : Option Nat) (w : World) (m : StringNo) : (w.setRx rx rxAt).channel m = w.channel m := rfl
@[simp] theorem World.badFrame_wall (w : World) (m : StringNo) : (w.badFrame).wall m = w.wall m := rfl
@[simp] theorem World.setRx_wall (rx : Receiver) (rxAt : Option Nat) (w : World) (m : StringNo) : (w.setRx rx rxAt).wall m = w.wall m := rfl
@[simp] theorem World.badFrame_view (w : World) (m : StringNo) : (w.badFrame).view m = w.view m := rfl
@[simp] theorem World.setRx_view (rx : Receiver) (rxAt : Option Nat) (w : World) (m : StringNo) : (w.setRx rx rxAt).view m = w.view m := rfl
@[simp] theorem World.badFrame_latch (w : World) (m : StringNo) : (w.badFrame).latch m = w.latch m := rfl
@[simp] theorem World.setRx_latch (rx : Receiver) (rxAt : Option Nat) (w : World) (m : StringNo) : (w.setRx rx rxAt).latch m = w.latch m := rfl
@[simp] theorem World.stray_channel (w : World) (m : StringNo) : (w.stray).channel m = w.channel m := rfl
@[simp] theorem World.stray_wall (w : World) (m : StringNo) : (w.stray).wall m = w.wall m := rfl
@[simp] theorem World.stray_view (w : World) (m : StringNo) : (w.stray).view m = w.view m := rfl
@[simp] theorem World.stray_latch (w : World) (m : StringNo) : (w.stray).latch m = w.latch m := rfl

/-- Reading a line after writing one. -/
@[simp] theorem State.setLine_line (s : State) (i j : LineNo) (m : Monitor) :
    (s.lines.set i m)[j] = if i = j then m else s.lines[j] := by
  simp only [Fin.getElem_fin, Vector.getElem_set, Fin.val_inj]

/-- Reading a slave clock line after writing one. -/
@[simp] theorem State.setDialLine_dial (s : State) (i j : Fin 4) (x : DialLine) :
    (s.dials.set i x)[j] = if i = j then x else s.dials[j] := by
  simp only [Fin.getElem_fin, Vector.getElem_set, Fin.val_inj]

end Sys2Proof.Machine
end

