-- ==== Sys2Proof/Laws/Requests.lean ====
section
/-! SUPPORT. Laws/Requests.lean: how a request on an idle link, a timer's expiry and an event end: what `exec` answers in terms of the
owner's verdict or of the work done, said once. -/

namespace Sys2Proof.Machine

/-! ## Time -/

theorem TimeBase.pass_elapsed (a b : Nat) (t : TimeBase) : (t.pass a b).elapsed = t.elapsed := by
  unfold TimeBase.pass; split <;> rfl

theorem TimeBase.within_elapsed (x : Nat) (t : TimeBase) : (t.within x).elapsed = x := by
  simp [TimeBase.within, TimeBase.pass_elapsed]

/-- Time runs on to the later of the present and the target. -/
@[simp] theorem TimeBase.runTo_elapsed (x : Nat) (t : TimeBase) : (t.runTo x).elapsed = max t.elapsed x := by
  unfold TimeBase.runTo
  split
  · omega
  · rw [TimeBase.within_elapsed]; omega

/-- Everything but the elapsed time, T, S, the increment and the seconds due runs on unchanged. -/
theorem TimeBase.pass_eq (a b : Nat) (t : TimeBase) : t.pass a b = { t with due := (t.pass a b).due } := by
  unfold TimeBase.pass; split <;> rfl

theorem TimeBase.roll_eq (t : TimeBase) :
    t.roll = { t with
      elapsed := t.roll.elapsed, base := t.roll.base, slew := t.roll.slew, increment := t.roll.increment,
      due := t.roll.due } := by
  unfold TimeBase.roll TimeBase.pass; split <;> rfl

theorem TimeBase.rollMany_eq (k : Nat) (t : TimeBase) :
    TimeBase.rollMany k t = { t with
      elapsed := (TimeBase.rollMany k t).elapsed, base := (TimeBase.rollMany k t).base,
      slew := (TimeBase.rollMany k t).slew, increment := (TimeBase.rollMany k t).increment,
      due := (TimeBase.rollMany k t).due } := by
  induction k generalizing t with
  | zero => rfl
  | succ k ih =>
    have h := ih t.roll
    rw [TimeBase.roll_eq t] at h
    simpa only [TimeBase.rollMany, ← TimeBase.roll_eq t] using h

/-- Running on moves only the elapsed time, T, S, the increment and the seconds due. -/
theorem TimeBase.runTo_eq (x : Nat) (t : TimeBase) :
    t.runTo x = { t with
      elapsed := (t.runTo x).elapsed, base := (t.runTo x).base, slew := (t.runTo x).slew,
      increment := (t.runTo x).increment, due := (t.runTo x).due } := by
  unfold TimeBase.runTo
  split
  · rfl
  · rw [TimeBase.within, TimeBase.pass_eq, TimeBase.rollMany_eq]

theorem TimeBase.runTo_frame (x : Nat) (t : TimeBase) :
    (t.runTo x).validity = t.validity ∧ (t.runTo x).trim = t.trim ∧ (t.runTo x).mode = t.mode ∧
      (t.runTo x).refState = t.refState ∧ (t.runTo x).lastPulse = t.lastPulse ∧
      (t.runTo x).pendingStep = t.pendingStep ∧ (t.runTo x).trimLimit = t.trimLimit ∧
      (t.runTo x).dayStart = t.dayStart ∧ (t.runTo x).rollHeld = t.rollHeld ∧ (t.runTo x).stepMark = t.stepMark ∧
      (t.runTo x).lastError = t.lastError ∧ (t.runTo x).watch = t.watch := by
  rw [TimeBase.runTo_eq]; simp

@[simp] theorem TimeBase.runTo_validity (x : Nat) (t : TimeBase) : (t.runTo x).validity = t.validity :=
  (TimeBase.runTo_frame x t).1
@[simp] theorem TimeBase.runTo_trim (x : Nat) (t : TimeBase) : (t.runTo x).trim = t.trim :=
  (TimeBase.runTo_frame x t).2.1
@[simp] theorem TimeBase.runTo_mode (x : Nat) (t : TimeBase) : (t.runTo x).mode = t.mode :=
  (TimeBase.runTo_frame x t).2.2.1
@[simp] theorem TimeBase.runTo_refState (x : Nat) (t : TimeBase) : (t.runTo x).refState = t.refState :=
  (TimeBase.runTo_frame x t).2.2.2.1
@[simp] theorem TimeBase.runTo_lastPulse (x : Nat) (t : TimeBase) : (t.runTo x).lastPulse = t.lastPulse :=
  (TimeBase.runTo_frame x t).2.2.2.2.1
@[simp] theorem TimeBase.runTo_pendingStep (x : Nat) (t : TimeBase) : (t.runTo x).pendingStep = t.pendingStep :=
  (TimeBase.runTo_frame x t).2.2.2.2.2.1
@[simp] theorem TimeBase.runTo_trimLimit (x : Nat) (t : TimeBase) : (t.runTo x).trimLimit = t.trimLimit :=
  (TimeBase.runTo_frame x t).2.2.2.2.2.2.1
@[simp] theorem TimeBase.runTo_dayStart (x : Nat) (t : TimeBase) : (t.runTo x).dayStart = t.dayStart :=
  (TimeBase.runTo_frame x t).2.2.2.2.2.2.2.1
@[simp] theorem TimeBase.runTo_rollHeld (x : Nat) (t : TimeBase) : (t.runTo x).rollHeld = t.rollHeld :=
  (TimeBase.runTo_frame x t).2.2.2.2.2.2.2.2.1
@[simp] theorem TimeBase.runTo_stepMark (x : Nat) (t : TimeBase) : (t.runTo x).stepMark = t.stepMark :=
  (TimeBase.runTo_frame x t).2.2.2.2.2.2.2.2.2.1
@[simp] theorem TimeBase.runTo_lastError (x : Nat) (t : TimeBase) : (t.runTo x).lastError = t.lastError :=
  (TimeBase.runTo_frame x t).2.2.2.2.2.2.2.2.2.2.1
@[simp] theorem TimeBase.runTo_watch (x : Nat) (t : TimeBase) : (t.runTo x).watch = t.watch :=
  (TimeBase.runTo_frame x t).2.2.2.2.2.2.2.2.2.2.2

/-! ## The end of a command -/

/-- What `close` leaves in the link is what it carries. -/
theorem State.close_carries (s : State) : s.close.link = s.link.carries s.world.out := rfl

/-- A timer that runs: the work is done at its moment and the command closed. -/
theorem State.expiry_some {timer : Option Nat} {x : Nat} (h : timer = some x) (f : Nat → State → State) (s : State) :
    s.expiry timer f = (f x (s.begin x)).close := by
  rw [h]; rfl

/-- A timer that does not run: nothing happens. -/
theorem State.silence_of_le {timer : Option Nat} {x dt : Nat} (h : timer = some x) (f : Nat → State → State) (s : State)
    (hx : x ≤ s.time.elapsed + dt) : s.silence dt timer f = (f x (s.begin x)).close := by
  subst h
  simp [State.silence, State.expiry, hx]

theorem State.silence_of_lt {timer : Option Nat} {dt : Nat} (f : Nat → State → State) (s : State)
    (h : ∀ x, timer = some x → s.time.elapsed + dt < x) : s.silence dt timer f = (s.after dt).close := by
  cases timer with
  | none => rfl
  | some x => simp [State.silence, h x rfl]

theorem State.expiry_none {timer : Option Nat} (h : timer = none) (f : Nat → State → State) (s : State) :
    s.expiry timer f = s := by
  rw [h]; rfl

/-- With no work left the step is over. -/
theorem World.drain_done (e : Env) (w : World) (fuel : Nat) (h : w.agenda = []) : World.drain e fuel w = w := by
  cases fuel with
  | zero => rfl
  | succ k => simp [World.drain, h]

theorem World.settleWork_done (e : Env) (w : World) (h : w.agenda = []) : w.settleWork e = w :=
  World.drain_done e w _ h

/-! ## A request on an idle link -/

/-- The engine as a request finds it that is dispatched on arrival. -/
def State.found (dt : Nat) (s : State) : State := (s.after dt).setLink { s.link with rx := .hunt, rxAt := none, partReady := true }

/-- The engine with a reply in the slot. -/
def State.reply (r : Reply) (s : State) : State := s.setLink { s.link with slot := some r }

/-- A request that finds the link idle is dispatched at once (R179, R181, R182). -/
theorem State.request_idle {s : State} (dt tag kind : Nat) (r : Request) (hi : s.link.idle) :
    s.request dt tag kind r = ((s.found dt).answer { kind, tag, request := r } ((s.found dt).decideRequest r)).close := by
  obtain ⟨h1, h2⟩ := hi
  have hw : (s.after dt).link = s.link := rfl
  have hf : (s.after dt).setLink { s.link with rx := .hunt, rxAt := none, partReady := true, queue := [] } = s.found dt := by
    simp only [State.found, ← h2]
  have hd : (((s.after dt).setLink { (s.after dt).link with rx := .hunt, rxAt := none }).setLink
      ((((s.after dt).setLink { (s.after dt).link with rx := .hunt, rxAt := none }).link).enqueue { kind, tag, request := r })).dispatchNext =
      (s.found dt).answer { kind, tag, request := r } ((s.found dt).decideRequest r) := by
    rw [← hf, hw]
    simp [State.dispatchNext, State.setLink, Link.enqueue, Link.dequeue, h1, h2]
  unfold State.request
  simp only []
  rw [Link.toHunt, State.arrive, if_pos (by simp [State.setLink, h2, Config.requestDepth]), hd]

/-- A refused request on an idle link: the reply, and nothing else. -/
theorem State.request_refused {s : State} {dt tag kind : Nat} {r : Request} {st : Status} {body : ReplyBody} (hi : s.link.idle)
    (h : (s.found dt).decideRequest r = .refuse st body) :
    s.request dt tag kind r = ((s.found dt).reply (refusal kind tag st body)).close := by
  rw [State.request_idle dt tag kind r hi, h]; rfl

/-- A taken request on an idle link: what it leaves, with the reply in the slot. -/
theorem State.request_taken {s left : State} {dt tag kind : Nat} {r : Request} {adjusted : Bool} {body : ReplyBody}
    (hi : s.link.idle) (h : (s.found dt).decideRequest r = .take adjusted body left) :
    s.request dt tag kind r = (left.reply (okReply kind tag adjusted body)).close := by
  rw [State.request_idle dt tag kind r hi, h]; rfl

end Sys2Proof.Machine
end

