-- ==== Sys2Proof/Laws/Background.lean ====
section
/-! SUPPORT. Laws/Background.lean: what composition, the commit, the cues and the causes of the Service Table never change
(`World.Background`), operation by operation up to the work of a whole step. -/

namespace Sys2Proof.Machine

theorem World.Background.refl (w : World) : w.Background w :=
  ⟨rfl, rfl, rfl, rfl, rfl, rfl, rfl, rfl, fun _ => rfl, fun _ _ => rfl, rfl⟩

theorem World.Background.trans {a b c : World} (h : a.Background b) (k : b.Background c) : a.Background c :=
  ⟨k.policy.trans h.policy, k.dueHorizon.trans h.dueHorizon, k.cuePolicy.trans h.cuePolicy, k.zoneMap.trans h.zoneMap,
    k.concourse.trans h.concourse, k.freeCells.trans h.freeCells, k.texts.trans h.texts, k.commit.trans h.commit,
    fun n => (k.channels n).trans (h.channels n), fun n i => (k.windows n i).trans (h.windows n i), k.au.trans h.au⟩

/-- A run of operations that each keep the background keeps it. -/
theorem World.background_foldl {α : Type} {f : World → α → World} (h : ∀ (w : World) x, w.Background (f w x)) (l : List α) (w : World) :
    w.Background (l.foldl f w) := by
  induction l generalizing w with
  | nil => exact .refl w
  | cons x l ih => exact (h w x).trans (ih (f w x))

/-! ## Single updates -/

theorem World.background_report (r : Report) (w : World) : w.Background (w.report r) :=
  ⟨rfl, rfl, rfl, rfl, rfl, rfl, rfl, rfl, fun _ => rfl, fun _ _ => rfl, rfl⟩

theorem World.background_push (t : Task) (w : World) : w.Background (w.push t) :=
  ⟨rfl, rfl, rfl, rfl, rfl, rfl, rfl, rfl, fun _ => rfl, fun _ _ => rfl, rfl⟩

theorem World.background_fresh (w : World) : w.Background w.fresh :=
  ⟨rfl, rfl, rfl, rfl, rfl, rfl, rfl, rfl, fun _ => rfl, fun _ _ => rfl, rfl⟩

theorem World.background_cues (l : List Cue) (w : World) : w.Background { w with cues := l } :=
  ⟨rfl, rfl, rfl, rfl, rfl, rfl, rfl, rfl, fun _ => rfl, fun _ _ => rfl, rfl⟩

theorem World.background_services (l : List Service) (w : World) : w.Background { w with services := l } :=
  ⟨rfl, rfl, rfl, rfl, rfl, rfl, rfl, rfl, fun _ => rfl, fun _ _ => rfl, rfl⟩

theorem World.background_notices (l : List Notice) (w : World) : w.Background { w with notices := l } :=
  ⟨rfl, rfl, rfl, rfl, rfl, rfl, rfl, rfl, fun _ => rfl, fun _ _ => rfl, rfl⟩

theorem World.background_agenda (l : List Task) (w : World) : w.Background { w with agenda := l } :=
  ⟨rfl, rfl, rfl, rfl, rfl, rfl, rfl, rfl, fun _ => rfl, fun _ _ => rfl, rfl⟩

theorem World.background_tableSeq (q : Seq) (w : World) : w.Background { w with tableSeq := q } :=
  ⟨rfl, rfl, rfl, rfl, rfl, rfl, rfl, rfl, fun _ => rfl, fun _ _ => rfl, rfl⟩

theorem World.background_nextHandle (h : Nat) (w : World) : w.Background { w with nextHandle := h } :=
  ⟨rfl, rfl, rfl, rfl, rfl, rfl, rfl, rfl, fun _ => rfl, fun _ _ => rfl, rfl⟩

theorem World.background_setCue (c : Cue) (w : World) : w.Background (w.setCue c) := World.background_cues _ w

theorem World.background_dropCue (slot : Nat) (w : World) : w.Background (w.dropCue slot) := World.background_cues _ w

theorem World.background_setPlay (i : Fin 4) (x : PlayChannel) (w : World) : w.Background (w.setPlay i x) :=
  ⟨rfl, rfl, rfl, rfl, rfl, rfl, rfl, rfl, fun _ => rfl, fun _ _ => rfl, rfl⟩

theorem World.background_auSend (f : AuFrame) (w : World) : w.Background (w.auSend f) :=
  ⟨rfl, rfl, rfl, rfl, rfl, rfl, rfl, rfl, fun _ => rfl, fun _ _ => rfl, rfl⟩

theorem World.background_setWall (n : StringNo) (x : Wall) (w : World) : w.Background (w.setWall n x) :=
  ⟨rfl, rfl, rfl, rfl, rfl, rfl, rfl, rfl, fun _ => rfl, fun _ _ => rfl, rfl⟩

theorem World.background_setLatch (n : StringNo) (x : LatchLine) (w : World) : w.Background (w.setLatch n x) :=
  ⟨rfl, rfl, rfl, rfl, rfl, rfl, rfl, rfl, fun _ => rfl, fun _ _ => rfl, rfl⟩

/-- A commit that stands as it stood. -/
theorem World.background_commit {c : Commit} {w : World} (h : c.standing = w.commit.standing) :
    w.Background { w with commit := c } :=
  ⟨rfl, rfl, rfl, rfl, rfl, rfl, rfl, h, fun _ => rfl, fun _ _ => rfl, rfl⟩

/-- A channel that stands as it stood. -/
theorem World.background_setChannel {n : StringNo} {c : Channel} {w : World} (h : c.standing = (w.channel n).standing) :
    w.Background (w.setChannel n c) := by
  refine ⟨rfl, rfl, rfl, rfl, rfl, rfl, rfl, rfl, fun m => ?_, fun _ _ => rfl, rfl⟩
  by_cases hm : m = n
  · subst hm; simpa using h
  · simp [World.setChannel_channel, Ne.symm hm]

/-- A view whose windows are given as they were. -/
theorem World.background_setView {n : StringNo} {v : View} {w : World}
    (h : ∀ k : Fin 4, v.windows[k].given = (w.view n).windows[k].given) : w.Background (w.setView n v) := by
  refine ⟨rfl, rfl, rfl, rfl, rfl, rfl, rfl, rfl, fun _ => rfl, fun m k => ?_, rfl⟩
  by_cases hm : m = n
  · subst hm; simpa using h k
  · simp [World.setView_view, Ne.symm hm]

/-! ## Use counts -/

theorem addUse_content (i : Nat) (l : List StoredText) : (addUse i l).map StoredText.content = l.map StoredText.content := by
  simp only [addUse, updateWhere, List.map_map]
  refine List.map_congr_left fun x _ => ?_
  simp only [Function.comp]
  split <;> rfl

theorem dropUse_content (i : Nat) (l : List StoredText) : (dropUse i l).map StoredText.content = l.map StoredText.content := by
  simp only [dropUse, updateWhere, List.map_map]
  refine List.map_congr_left fun x _ => ?_
  simp only [Function.comp]
  split <;> rfl

theorem World.background_claim (refs : List Nat) (w : World) : w.Background (w.claim refs) := by
  refine ⟨rfl, rfl, rfl, rfl, rfl, rfl, ?_, rfl, fun _ => rfl, fun _ _ => rfl, rfl⟩
  simp only [World.claim]
  generalize w.texts = l
  induction refs generalizing l with
  | nil => rfl
  | cons i refs ih => rw [List.foldl_cons, ih, addUse_content]

theorem World.background_release (refs : List Nat) (w : World) : w.Background (w.release refs) := by
  refine ⟨rfl, rfl, rfl, rfl, rfl, rfl, ?_, rfl, fun _ => rfl, fun _ _ => rfl, rfl⟩
  simp only [World.release]
  generalize w.texts = l
  induction refs generalizing l with
  | nil => rfl
  | cons i refs ih => rw [List.foldl_cons, ih, dropUse_content]

/-! ## Composition -/

theorem Window.checked_given (w : World) (rows : Nat) (x : Window) : (x.checked w rows).given = x.given := by
  unfold Window.checked; split <;> rfl

theorem composeWindow_given (e : Env) (w : World) (total : Nat) (slot : Fin 4) (v : View) (k : Fin 4) :
    (composeWindow e w total slot v).windows[k].given = v.windows[k].given := by
  simp only [composeWindow]
  split
  · rfl
  · simp only [Fin.getElem_fin, Vector.getElem_set]
    split
    · rename_i h
      have hk : slot = k := Fin.ext h
      subst hk; exact Window.checked_given ..
    · rfl

theorem composeView_given (e : Env) (w : World) (total : Nat) (f : Filter) (v : View) (k : Fin 4) :
    (composeView e w total f v).windows[k].given = v.windows[k].given := by
  unfold composeView
  generalize allFour = l
  induction l generalizing v with
  | nil => rfl
  | cons s l ih =>
    rw [List.foldl_cons, ih]
    split
    · exact composeWindow_given ..
    · rfl

theorem composeWhole_given (e : Env) (w : World) (total : Nat) (v : View) (k : Fin 4) :
    (composeWhole e w total v).windows[k].given = v.windows[k].given := composeView_given ..

theorem World.background_composeString (n : StringNo) (e : Env) (w : World) : w.Background (w.composeString n e).1 :=
  World.background_setView fun _ => composeWhole_given ..

theorem World.background_compose (f : Filter) (e : Env) (w : World) : w.Background (w.compose f e).1 := by
  unfold World.compose
  generalize allStrings = l
  suffices h : ∀ (l : List StringNo) (p : World × Bool), p.1.Background (l.foldl (fun (w, changed) n =>
      let old := w.view n
      let new := composeView e w (w.rowTotal n) f old
      (w.setView n new, changed || new.targets != old.targets)) p).1 from h l (w, false)
  intro l
  induction l with
  | nil => exact fun p => .refl p.1
  | cons n l ih =>
    intro p
    rw [List.foldl_cons]
    refine .trans ?_ (ih _)
    exact World.background_setView fun _ => composeView_given ..

theorem World.background_composeAll (e : Env) (w : World) : w.Background (w.composeAll e).1 := by
  unfold World.composeAll
  generalize allStrings = l
  suffices h : ∀ (l : List StringNo) (p : World × Bool), p.1.Background (l.foldl (fun (w, changed) n =>
      let (w, c) := w.composeString n e
      (w, changed || c)) p).1 from h l (w, false)
  intro l
  induction l with
  | nil => exact fun p => .refl p.1
  | cons n l ih =>
    intro p
    rw [List.foldl_cons]
    refine .trans ?_ (ih _)
    exact World.background_composeString n e p.1

/-! ## The commit -/

theorem World.background_settle (skip : Bool) (e : Env) (w : World) : w.Background (w.settle skip e) := by
  unfold World.settle
  split
  · exact ⟨rfl, rfl, rfl, rfl, rfl, rfl, rfl, rfl, fun _ => rfl, fun _ _ => rfl, rfl⟩
  · exact ⟨rfl, rfl, rfl, rfl, rfl, rfl, rfl, rfl, fun _ => rfl, fun _ _ => rfl, rfl⟩

theorem World.background_judge (e : Env) (w : World) : w.Background (w.judge e) := by
  unfold World.judge
  split
  · exact World.background_settle ..
  · exact .refl w

theorem World.background_tell (changed mark : Bool) (e : Env) (w : World) : w.Background (w.tell changed mark e) := by
  unfold World.tell
  split
  · split
    · split
      · exact World.background_settle ..
      · exact .refl w
    · exact ⟨rfl, rfl, rfl, rfl, rfl, rfl, rfl, rfl, fun _ => rfl, fun _ _ => rfl, rfl⟩
    · exact ⟨rfl, rfl, rfl, rfl, rfl, rfl, rfl, rfl, fun _ => rfl, fun _ _ => rfl, rfl⟩
  · exact World.background_judge ..

theorem World.background_composed (f : Filter) (mark : Bool) (e : Env) (w : World) : w.Background (w.composed f mark e) :=
  (World.background_compose f e w).trans (World.background_tell ..)

theorem World.background_pulse (n : StringNo) (k : PulseKind) (c : Bool) (e : Env) (w : World) :
    w.Background (w.pulse n k c e) := World.background_setLatch ..

theorem World.background_completeString (n : StringNo) (w : World) : w.Background (w.completeString n) := by
  unfold World.completeString
  simp only []
  split
  · exact World.background_setWall ..
  · exact World.background_setWall ..
  · exact .refl w

theorem World.background_clearPart (n : StringNo) (w : World) : w.Background (w.clearPart n) := World.background_setWall ..

theorem World.background_complete (null : Bool) (e : Env) (w : World) : w.Background (w.complete null e) := by
  have h1 := World.background_foldl (fun w n => World.background_completeString n w) allStrings w
  have h2 := World.background_foldl (fun w n => World.background_clearPart n w) allStrings
    (allStrings.foldl (fun w n => World.completeString n w) w)
  have h3 := h1.trans h2
  clear h1 h2
  unfold World.complete
  simp only []
  generalize List.foldl _ (List.foldl _ w allStrings) allStrings = d at h3 ⊢
  have h4 : w.Background ({ d with
      commit := { w.commit with
        state := .quiet, wallSeq := w.commit.commitSeq, generation := w.commit.generation + 1 } } : World) :=
    ⟨h3.policy, h3.dueHorizon, h3.cuePolicy, h3.zoneMap, h3.concourse, h3.freeCells, h3.texts, rfl, h3.channels,
      h3.windows, h3.au⟩
  generalize w.out ++ _ ++ _ = o
  have h5 := h4.trans (b := _) (c := World.push .release { d with
      commit := { w.commit with state := .quiet, wallSeq := w.commit.commitSeq, generation := w.commit.generation + 1 }
      out := o }) ⟨rfl, rfl, rfl, rfl, rfl, rfl, rfl, rfl, fun _ => rfl, fun _ _ => rfl, rfl⟩
  split
  · exact h5.trans (World.background_settle ..)
  · exact h5

theorem World.background_finishIfDone (e : Env) (w : World) : w.Background (w.finishIfDone e) := by
  unfold World.finishIfDone
  split
  · exact World.background_complete ..
  · exact .refl w

theorem World.background_groupPulse (g : Group) (n : StringNo) (e : Env) (w : World) : w.Background (w.groupPulse g n e) := by
  unfold World.groupPulse
  split
  · split
    · exact World.background_pulse ..
    · exact World.background_pulse ..
    · exact .refl w
  · exact .refl w

theorem World.background_enterLatchB (e : Env) (w : World) : w.Background (w.enterLatchB e) := by
  unfold World.enterLatchB
  have h1 : w.Background { w with commit := { w.commit with state := .latchB, staggerTimer := none } } :=
    ⟨rfl, rfl, rfl, rfl, rfl, rfl, rfl, rfl, fun _ => rfl, fun _ _ => rfl, rfl⟩
  simp only []
  generalize ({ w with commit := { w.commit with state := .latchB, staggerTimer := none } } : World) = v at h1 ⊢
  have h2 := World.background_foldl (fun w n => World.background_groupPulse .b n e w) allStrings v
  generalize List.foldl _ v allStrings = d at h2 ⊢
  exact (h1.trans h2).trans (World.background_finishIfDone ..)

theorem World.background_enterLatchA (e : Env) (w : World) : w.Background (w.enterLatchA e) := by
  unfold World.enterLatchA
  have h1 : w.Background { w with commit := { w.commit with state := .latchA, deadlineTimer := none } } :=
    ⟨rfl, rfl, rfl, rfl, rfl, rfl, rfl, rfl, fun _ => rfl, fun _ _ => rfl, rfl⟩
  simp only []
  generalize ({ w with commit := { w.commit with state := .latchA, deadlineTimer := none } } : World) = v at h1 ⊢
  have h2 := World.background_foldl (fun w n => World.background_groupPulse .a n e w) allStrings v
  generalize List.foldl _ v allStrings = d at h2 ⊢
  refine (h1.trans h2).trans ?_
  split
  · exact ⟨rfl, rfl, rfl, rfl, rfl, rfl, rfl, rfl, fun _ => rfl, fun _ _ => rfl, rfl⟩
  · exact World.background_enterLatchB ..

theorem World.background_endStaging (e : Env) (w : World) : w.Background (w.endStaging e) := by
  unfold World.endStaging
  split
  · exact World.background_enterLatchA ..
  · exact .refl w

theorem Channel.wakeTest_standing (now : Nat) (c : Channel) : (c.wakeTest now).standing = c.standing := by
  unfold Channel.wakeTest
  simp only []
  split <;> split <;> rfl

theorem Channel.unhold_standing (c : Channel) : c.unhold.standing = c.standing := by
  unfold Channel.unhold; split <;> rfl

theorem Channel.orphanStage_standing (c : Channel) : c.orphanStage.standing = c.standing := by
  unfold Channel.orphanStage
  split
  · split <;> rfl
  · rfl

theorem Channel.queueStages_standing (l : List StagedRow) (c : Channel) : (c.queueStages l).standing = c.standing :=
  rfl

theorem Channel.discard_standing (now : Nat) (c : Channel) : (c.discard now).standing = c.standing := by
  unfold Channel.discard
  rw [Channel.wakeTest_standing, Channel.unhold_standing, Channel.orphanStage_standing]; rfl

theorem Channel.flush_standing (now : Nat) (c : Channel) : (c.flush now).standing = c.standing := by
  unfold Channel.flush
  rw [Channel.wakeTest_standing, Channel.unhold_standing, Channel.orphanStage_standing]; rfl

theorem World.background_stageString (n : StringNo) (w : World) : w.Background (w.stageString n) := by
  unfold World.stageString
  simp only []
  generalize stagedRows _ _ = st
  split
  · exact .refl w
  · split
    · exact World.background_setWall ..
    · exact (World.background_setWall ..).trans (World.background_setChannel (Channel.queueStages_standing ..))

theorem World.background_beginStaging (e : Env) (w : World) : w.Background (w.beginStaging e) := by
  unfold World.beginStaging
  have h1 : w.Background { w with
      commit := { w.commit with commitSeq := w.tableSeq, minutePending := false, settleTimer := none } } :=
    ⟨rfl, rfl, rfl, rfl, rfl, rfl, rfl, rfl, fun _ => rfl, fun _ _ => rfl, rfl⟩
  simp only []
  generalize ({ w with
      commit := { w.commit with commitSeq := w.tableSeq, minutePending := false, settleTimer := none } } : World) = v at h1 ⊢
  have h2 := World.background_foldl (fun w n => World.background_stageString n w) allStrings v
  generalize List.foldl _ v allStrings = d at h2 ⊢
  refine (h1.trans h2).trans ?_
  split
  · exact World.background_complete ..
  · have h3 : d.Background { d with
        commit := { d.commit with state := .staging, deadlineTimer := some (e.inMs d.commit.settings.deadline) } } :=
      ⟨rfl, rfl, rfl, rfl, rfl, rfl, rfl, rfl, fun _ => rfl, fun _ _ => rfl, rfl⟩
    exact h3.trans (World.background_endStaging ..)

theorem World.background_stageIfSettled (e : Env) (w : World) : w.Background (w.stageIfSettled e) := by
  unfold World.stageIfSettled
  split
  · exact World.background_beginStaging ..
  · exact .refl w

theorem World.background_markFailed (n : StringNo) (c : FailCause) (e : Env) (w : World) :
    w.Background (w.markFailed n c e) := by
  unfold World.markFailed
  split
  · exact (World.background_setWall ..).trans (World.background_setChannel (Channel.discard_standing ..))
  · exact .refl w

theorem World.background_fail (n : StringNo) (c : FailCause) (e : Env) (w : World) : w.Background (w.fail n c e) :=
  (World.background_markFailed ..).trans (World.background_endStaging ..)

theorem World.background_failRow (n : StringNo) (row : Nat) (c : FailCause) (e : Env) (w : World) :
    w.Background (w.failRow n row c e) := by
  unfold World.failRow
  split
  · exact World.background_fail ..
  · exact .refl w

theorem World.background_moduleLost (n : StringNo) (m : Nat) (e : Env) (w : World) : w.Background (w.moduleLost n m e) := by
  unfold World.moduleLost
  simp only []
  split
  · exact World.background_fail ..
  · exact .refl w

theorem World.background_acknowledge (n : StringNo) (row : Nat) (e : Env) (w : World) :
    w.Background (w.acknowledge n row e) := by
  unfold World.acknowledge
  simp only []
  split
  · exact (World.background_setWall ..).trans (World.background_endStaging ..)
  · exact .refl w

theorem World.background_restageAll (n : StringNo) (e : Env) (w : World) : w.Background (w.restageAll n e) :=
  (World.background_setWall ..).trans (World.background_judge ..)

theorem World.background_deadline (e : Env) (w : World) : w.Background (w.deadline e) := by
  unfold World.deadline
  have h1 : w.Background { w with commit := { w.commit with deadlineTimer := none } } :=
    ⟨rfl, rfl, rfl, rfl, rfl, rfl, rfl, rfl, fun _ => rfl, fun _ _ => rfl, rfl⟩
  simp only []
  generalize ({ w with commit := { w.commit with deadlineTimer := none } } : World) = v at h1 ⊢
  have h2 := World.background_foldl (fun w n => World.background_markFailed n .deadline e w) allStrings v
  generalize List.foldl _ v allStrings = d at h2 ⊢
  exact (h1.trans h2).trans (World.background_endStaging ..)

theorem World.background_blankString (n : StringNo) (e : Env) (w : World) : w.Background (w.blankString n e) := by
  unfold World.blankString
  simp only []
  have h (x : Wall) : w.Background ((w.pulse n .blank false e).setWall n x) :=
    (World.background_pulse ..).trans (World.background_setWall ..)
  split
  · exact (h _).trans (World.background_report ..)
  · exact h _

/-! ## Cues -/

theorem World.background_stopChannel (i : Fin 4) (e : Env) (w : World) : w.Background (w.stopChannel i e) := by
  unfold World.stopChannel
  simp only []
  split
  · exact .refl w
  · split
    · exact (World.background_setPlay ..).trans (World.background_auSend ..)
    · exact .refl w

theorem World.background_stopPlay (h : Nat) (e : Env) (w : World) : w.Background (w.stopPlay h e) := by
  unfold World.stopPlay
  split
  · exact World.background_stopChannel ..
  · exact .refl w

theorem World.background_tellEnded (o : Origin) (k : CueKind) (subject h : Nat) (w : World) :
    w.Background (w.tellEnded o k subject h) := by
  unfold World.tellEnded
  split
  · exact World.background_push ..
  · exact .refl w

theorem World.background_leave (event : CueEvent) (c : Cue) (e : Env) (w : World) : w.Background (w.leave event c e) := by
  unfold World.leave
  simp only [World.cueReport]
  have h (r : Report) : w.Background ((w.dropCue c.slot).report r) :=
    (World.background_dropCue ..).trans (World.background_report ..)
  refine .trans ?_ (World.background_tellEnded ..)
  split
  · exact h _
  · exact (h _).trans (World.background_stopPlay ..)

theorem World.background_queueIfShown (c : Cue) (e : Env) (w : World) : w.Background (w.queueIfShown c e) := by
  unfold World.queueIfShown
  split
  · exact (World.background_setCue ..).trans (World.background_push ..)
  · exact World.background_setCue ..

theorem World.background_toWall (c : Cue) (e : Env) (w : World) : w.Background (w.toWall c e) :=
  World.background_queueIfShown ..

theorem World.background_fallDue (c : Cue) (e : Env) (w : World) : w.Background (w.fallDue c e) :=
  World.background_queueIfShown ..

theorem World.background_raise (test : Cue → Bool) (rev : Seq) (w : World) : w.Background (w.raise test rev) :=
  World.background_cues ..

theorem World.background_releaseCues (e : Env) (w : World) : w.Background (w.releaseCues e) :=
  World.background_foldl (fun w c => World.background_queueIfShown c e w) _ w

theorem World.background_triggerCue (c : Cue) (stamp : Nat) (e : Env) (w : World) : w.Background (w.triggerCue c stamp e) := by
  unfold World.triggerCue
  simp only []
  split
  · exact World.background_fallDue ..
  · exact World.background_setCue ..

theorem World.background_edge (line : Nat) (q : Option Nat) (stamp : Nat) (e : Env) (w : World) :
    w.Background (w.edge line q stamp e) := by
  unfold World.edge
  simp only []
  have h (l : List Cue) := World.background_foldl (fun w c => World.background_triggerCue c stamp e w) l w
  split
  · exact (h _).trans (World.background_triggerCue ..)
  · exact h _

theorem World.background_judgeAnchors (test : Cue → Bool) (e : Env) (w : World) : w.Background (w.judgeAnchors test e) := by
  refine World.background_foldl (fun w c => ?_) _ w
  split
  · exact World.background_fallDue ..
  · exact .refl w

theorem World.background_tellMade (code handle : Nat) (w : World) : w.Background (w.tellMade code handle) :=
  World.background_services ..

theorem World.background_seat (slot : Nat) (c : Cue) (e : Env) (w : World) : w.Background (w.seat slot c e) := by
  unfold World.seat
  simp only []
  have h : w.Background (match c.mode with
      | .oneShot => ({ w with nextHandle := nextHandleNo w.handleToGive }).toWall { c with handle := w.handleToGive, slot } e
      | .periodic => ({ w with nextHandle := nextHandleNo w.handleToGive }).toWall { c with handle := w.handleToGive, slot } e
      | .triggered => ({ w with nextHandle := nextHandleNo w.handleToGive }).setCue { c with handle := w.handleToGive, slot }
      | .triggeredPeriodic =>
        ({ w with nextHandle := nextHandleNo w.handleToGive }).setCue { c with handle := w.handleToGive, slot }
      | .anchored =>
        if ({ w with nextHandle := nextHandleNo w.handleToGive } : World).anchorDue { c with handle := w.handleToGive, slot } e
          then ({ w with nextHandle := nextHandleNo w.handleToGive }).toWall { c with handle := w.handleToGive, slot } e
        else ({ w with nextHandle := nextHandleNo w.handleToGive }).setCue { c with handle := w.handleToGive, slot }) := by
    have h := World.background_nextHandle (nextHandleNo w.handleToGive) w
    split
    · exact h.trans (World.background_toWall ..)
    · exact h.trans (World.background_toWall ..)
    · exact h.trans (World.background_setCue ..)
    · exact h.trans (World.background_setCue ..)
    · split
      · exact h.trans (World.background_toWall ..)
      · exact h.trans (World.background_setCue ..)
  split
  · exact h.trans (World.background_tellMade ..)
  · exact h

theorem World.background_makeCue (c : Cue) (e : Env) (w : World) : w.Background (w.makeCue c e) := by
  unfold World.makeCue
  simp only []
  split
  · exact World.background_report ..
  · split
    · exact (World.background_leave ..).trans (World.background_seat ..)
    · split
      · exact World.background_seat ..
      · split
        · exact (World.background_leave ..).trans (World.background_seat ..)
        · exact World.background_report ..

theorem World.background_makeIf (b : Bool) (c : Cue) (e : Env) (w : World) : w.Background (w.makeIf b c e) := by
  unfold World.makeIf
  split
  · exact World.background_makeCue ..
  · exact .refl w

theorem World.background_cancellationCue (d : SvcChange) (e : Env) (w : World) : w.Background (w.cancellationCue d e) := by
  unfold World.cancellationCue
  split
  · exact (World.background_foldl (fun w c => World.background_leave .withdrawnSubjectCancelled c e w) _ w).trans
      (World.background_makeIf ..)
  · exact .refl w

theorem World.background_platformCue (d : SvcChange) (e : Env) (w : World) : w.Background (w.platformCue d e) := by
  unfold World.platformCue
  simp only []
  split
  · exact World.background_makeIf ..
  · exact .refl w

theorem World.background_delayCue (d : SvcChange) (e : Env) (w : World) : w.Background (w.delayCue d e) := by
  unfold World.delayCue
  simp only []
  split
  · exact World.background_makeIf ..
  · exact .refl w

theorem World.background_boardingCues (d : SvcChange) (e : Env) (w : World) : w.Background (w.boardingCues d e) := by
  unfold World.boardingCues
  simp only []
  split
  · exact (World.background_makeIf ..).trans (World.background_makeIf ..)
  · exact .refl w

theorem World.background_serviceCues (d : SvcChange) (e : Env) (w : World) : w.Background (w.serviceCues d e) :=
  (World.background_raise ..).trans <| (World.background_cancellationCue d e _).trans <|
    (World.background_platformCue d e _).trans <| (World.background_delayCue d e _).trans <|
      (World.background_boardingCues d e _).trans (World.background_judgeAnchors ..)

theorem World.background_subjectGone (test : Cue → Bool) (e : Env) (w : World) : w.Background (w.subjectGone test e) :=
  (World.background_cues _ w).trans
    (World.background_foldl (fun w c => World.background_leave .withdrawnSubjectRetired c e w) _ _)

theorem World.background_noticeCues (b : Option Notice) (n : Notice) (put : Bool) (e : Env) (w : World) :
    w.Background (w.noticeCues b n put e) := by
  unfold World.noticeCues
  simp only []
  split
  · exact World.background_makeIf ..
  · split
    · split
      · split
        · exact World.background_leave ..
        · exact .refl w
      · exact .refl w
    · exact .refl w

/-! ## Causes of the Service Table and the Notice List -/

theorem World.background_storeService (r : Service) (w : World) : w.Background (w.storeService r) :=
  World.background_services ..

theorem World.background_applyChange (d : SvcChange) (w : World) : w.Background (w.applyChange d) := by
  refine .trans ?_ (World.background_storeService ..)
  unfold World.recount
  refine .trans ?_ (World.background_claim ..)
  split
  · exact World.background_release ..
  · exact .refl w

theorem World.background_removeNotice (why : Option NoticeEnd) (n : Notice) (e : Env) (w : World) :
    w.Background (w.removeNotice why n e) := by
  unfold World.removeNotice
  simp only []
  have h (l : List Notice) : w.Background ({ w with notices := l }.release [n.text]) :=
    (World.background_notices l w).trans (World.background_release ..)
  refine .trans ?_ (World.background_subjectGone ..)
  split
  · exact (h _).trans (World.background_report ..)
  · exact h _

theorem World.background_retire (r : Service) (why : RetireReason) (e : Env) (w : World) : w.Background (w.retire r why e) :=
  (World.background_services _ w).trans <| (World.background_release r.refs _).trans <| (World.background_report _ _).trans <|
    (World.background_foldl (fun w n => World.background_removeNotice (some .subjectRetired) n e w) _ _).trans
      (World.background_subjectGone ..)

theorem World.background_retireAll (ds : List SvcChange) (e : Env) (w : World) : w.Background (w.retireAll ds e) := by
  refine World.background_foldl (fun w r => ?_) _ w
  split
  · exact World.background_retire ..
  · exact .refl w

theorem World.background_cause (ds : List SvcChange) (e : Env) (w : World) : w.Background (w.cause ds e) := by
  unfold World.cause
  split
  · exact (World.background_tableSeq _ w).trans <|
      (World.background_foldl (fun w d => World.background_applyChange d w) _ _).trans <|
        (World.background_foldl (fun w d => World.background_serviceCues d e w) _ _).trans (World.background_retireAll ..)
  · exact World.background_foldl (fun w d => World.background_applyChange d w) _ w

theorem World.background_handOn (ds : List SvcChange) (e : Env) (w : World) : w.Background (w.handOn ds e) := by
  unfold World.handOn
  simp only []
  split
  · exact (World.background_cause ds e w).trans (World.background_composed ..)
  · exact World.background_cause ..

theorem World.background_evaluateOne (code : Nat) (e : Env) (w : World) : w.Background (w.evaluateOne code e) := by
  unfold World.evaluateOne
  split
  · exact World.background_handOn ..
  · exact .refl w

theorem World.background_changeNotice (code handle : Nat) (c : Option ChangeCue) (e : Env) (w : World) :
    w.Background (w.changeNotice code handle c e) := by
  unfold World.changeNotice
  split
  · split
    · exact (World.background_storeService ..).trans (World.background_evaluateOne ..)
    · exact .refl w
  · exact .refl w

theorem World.background_decideNotices (e : Env) (w : World) : w.Background (w.decideNotices e).1 := by
  unfold World.decideNotices
  simp only []
  split
  · exact .refl w
  · have h (l : List Notice) : w.Background { w with tableSeq := w.tableSeq + 1, notices := l } :=
      (World.background_tableSeq (w.tableSeq + 1) w).trans (World.background_notices l _)
    exact (h _).trans <| (World.background_foldl (fun w n => World.background_removeNotice (some .expired) n e w) _ _).trans
      (World.background_foldl (fun w n => (World.background_raise _ _ w).trans (World.background_noticeCues ..)) _ _)

theorem World.background_noticeEvent (e : Env) (w : World) : w.Background (w.noticeEvent e) := by
  unfold World.noticeEvent
  simp only []
  split
  · exact (World.background_decideNotices e w).trans (World.background_composed ..)
  · exact World.background_decideNotices e w

theorem World.background_dispatch (p line stamp : Nat) (c : Option Nat) (e : Env) (w : World) :
    w.Background (w.dispatch p line stamp c e) := by
  unfold World.dispatch
  split
  · exact World.background_handOn ..
  · exact World.background_report ..

/-! ## The arbiter and the work of a step -/

theorem World.background_cuePreempted (h : Nat) (e : Env) (w : World) : w.Background (w.cuePreempted h e) := by
  unfold World.cuePreempted
  split
  · exact .refl w
  · split
    · exact (World.background_dropCue ..).trans ((World.background_report ..).trans (World.background_tellEnded ..))
    · split
      · exact (World.background_dropCue ..).trans (World.background_tellEnded ..)
      · split
        · exact World.background_setCue ..
        · exact (World.background_setCue ..).trans (World.background_push ..)

theorem World.background_preemptPlay (i : Fin 4) (e : Env) (w : World) : w.Background (w.preemptPlay i e) := by
  unfold World.preemptPlay
  split
  · split
    · exact (World.background_stopChannel ..).trans ((World.background_report ..).trans (World.background_cuePreempted ..))
    · exact .refl w
  · exact .refl w

theorem World.background_preempt (e : Env) (w : World) : w.Background (w.preempt e) := by
  refine World.background_foldl (fun w c => ?_) _ w
  split
  · exact World.background_foldl (fun w i => World.background_preemptPlay i e w) _ w
  · exact .refl w

theorem World.background_startCue (i : Fin 4) (c : Cue) (e : Env) (w : World) : w.Background (w.startCue i c e) :=
  (World.background_setCue ..).trans ((World.background_setPlay ..).trans (World.background_auSend ..))

theorem World.background_contestLoop (e : Env) (fuel : Nat) (w : World) : w.Background (World.contestLoop e fuel w) := by
  induction fuel generalizing w with
  | zero => exact .refl w
  | succ k ih =>
    unfold World.contestLoop
    split
    · split
      · exact (World.background_leave ..).trans (ih _)
      · exact ((World.background_setCue ..).trans (World.background_push ..)).trans (ih _)
      · exact (World.background_startCue ..).trans (ih _)
    · exact .refl w

theorem World.background_arbitrate (e : Env) (w : World) : w.Background (w.arbitrate e) := by
  unfold World.arbitrate
  split
  · exact (World.background_preempt e w).trans (World.background_contestLoop ..)
  · exact .refl w

theorem World.background_perform (t : Task) (e : Env) (w : World) : w.Background (w.perform t e) := by
  unfold World.perform
  split
  · exact World.background_stageIfSettled ..
  · exact World.background_releaseCues ..
  · exact World.background_arbitrate ..
  · exact World.background_changeNotice ..

theorem World.background_drain (e : Env) (fuel : Nat) (w : World) : w.Background (World.drain e fuel w) := by
  induction fuel generalizing w with
  | zero => exact .refl w
  | succ k ih =>
    unfold World.drain
    split
    · exact .refl w
    · exact (World.background_agenda _ w).trans ((World.background_perform ..).trans (ih _))

/-- The work that a cause has left changes nothing of the background. -/
theorem World.background_settleWork (e : Env) (w : World) : w.Background (w.settleWork e) := World.background_drain ..

end Sys2Proof.Machine
end

