-- ==== Sys2Proof/Laws/ChannelQueue.lean ====
section
/-! SUPPORT. Laws/ChannelQueue.lean: what the operations on a string channel do to its frame queue and its exchange (R124, R128 to
R130, R137): a frame leaves the queue at the end of its exchange, a discard or a flush passes over the frame on
the line, and nothing begins while flow is stopped (R133). -/

namespace Sys2Proof.Machine

/-- A test that begins changes nothing but the test. -/
theorem Channel.wakeTest_eq (now : Nat) (c : Channel) : c.wakeTest now = c ∨ c.wakeTest now = c.beginTest now := by
  unfold Channel.wakeTest
  simp only []
  split <;> split <;> first | exact .inl rfl | exact .inr rfl

@[simp] theorem Channel.wakeTest_queue (now : Nat) (c : Channel) : (c.wakeTest now).queue = c.queue := by
  rcases c.wakeTest_eq now with h | h <;> rw [h]; rfl

@[simp] theorem Channel.wakeTest_state (now : Nat) (c : Channel) : (c.wakeTest now).state = c.state := by
  rcases c.wakeTest_eq now with h | h <;> rw [h]; rfl

@[simp] theorem Channel.wakeTest_exchange (now : Nat) (c : Channel) : (c.wakeTest now).exchange = c.exchange := by
  rcases c.wakeTest_eq now with h | h <;> rw [h]; rfl

@[simp] theorem Channel.unhold_queue (c : Channel) : c.unhold.queue = c.queue := by unfold Channel.unhold; split <;> rfl

@[simp] theorem Channel.unhold_exchange (c : Channel) : c.unhold.exchange = c.exchange := by
  unfold Channel.unhold; split <;> rfl

@[simp] theorem Channel.orphanStage_queue (c : Channel) : c.orphanStage.queue = c.queue := by
  unfold Channel.orphanStage
  split
  · split <;> rfl
  · rfl

/-- R130: a STAGE_ROW exchange becomes an orphan, and no other changes. -/
theorem Channel.orphanStage_exchange (c : Channel) :
    c.orphanStage.exchange = c.exchange.map fun x => { x with orphan := x.orphan || x.frame.isStage } := by
  unfold Channel.orphanStage
  cases h : c.exchange with
  | none => simp [h]
  | some x => cases hs : x.frame.isStage <;> simp [h, hs]

/-- The frame on the line and the frames that wait are the queue. -/
theorem Channel.lineFrame_append_waitingFrames (c : Channel) : c.lineFrame ++ c.waitingFrames = c.queue := by
  unfold Channel.lineFrame Channel.waitingFrames
  split
  · cases c.queue <;> rfl
  · rfl

/-- R129: the end of an exchange. -/
theorem Channel.endExchange_effect (now : Nat) (c : Channel) :
    (c.endExchange now).state = .ready ∧ (c.endExchange now).exchange = none ∧ (c.endExchange now).queue = c.queue.tail := by
  simp [Channel.endExchange]

/-- R124: a discard keeps the frame on the line and the POLL that waits. -/
theorem Channel.discard_queue (now : Nat) (c : Channel) :
    (c.discard now).queue = c.lineFrame ++ c.waitingFrames.filter fun q : QueuedFrame => !q.frame.isStage := by
  simp [Channel.discard]

/-- R137: a flush keeps the frame on the line alone. -/
theorem Channel.flush_queue (now : Nat) (c : Channel) : (c.flush now).queue = c.lineFrame := by simp [Channel.flush]

/-- R133: flow that is still stopped releases no channel. -/
theorem Channel.resumeHeld_of_stopped {c : Channel} (now : Nat) (h : c.stopped = true) : c.resumeHeld now = c := by
  simp [Channel.resumeHeld, h]

/-- R133: BSY leaves a channel stopped by a pause code as it is, but for the level. -/
theorem Channel.busyReturn_of_paused {c : Channel} (asserted : Bool) (now : Nat) (hf : c.settings.flow = .pauseCodes)
    (hs : c.flowStopped = true) : c.busyReturn asserted now = { c with busy := asserted } :=
  Channel.resumeHeld_of_stopped now (by simp [Channel.stopped, hf, hs])

/-- R128: a resend keeps the queue as it is. -/
@[simp] theorem Channel.resend_queue (c : Channel) : c.resend.queue = c.queue := rfl

end Sys2Proof.Machine
end

