-- ==== Sys2Proof/Laws/Readers.lean ====
section
/-! SUPPORT. Laws/Readers.lean: what reading a code, a character of a frame, a page count and an aging moment gives, said once. -/

namespace Sys2Proof.Machine

/-! ## Codes (R187): a code is read as a value exactly where it is that value's -/

theorem Polarity.ofCode_eq_some {n : Nat} {x : Polarity} : Polarity.ofCode n = some x ↔ n = x.code := by
  rcases n with _ | _ | n <;> cases x <;> simp [Polarity.ofCode, Polarity.code]

theorem RefMode.ofCode_eq_some {n : Nat} {x : RefMode} : RefMode.ofCode n = some x ↔ n = x.code := by
  rcases n with _ | _ | _ | n <;> cases x <;> simp [RefMode.ofCode, RefMode.code]

theorem Side.ofCode_eq_some {n : Nat} {x : Side} : Side.ofCode n = some x ↔ n = x.code := by
  rcases n with _ | _ | _ | n <;> cases x <;> simp [Side.ofCode, Side.code]

theorem FlowMode.ofCode_eq_some {n : Nat} {x : FlowMode} : FlowMode.ofCode n = some x ↔ n = x.code := by
  rcases n with _ | _ | _ | n <;> cases x <;> simp [FlowMode.ofCode, FlowMode.code]

theorem Group.ofCode_eq_some {n : Nat} {x : Group} : Group.ofCode n = some x ↔ n = x.code := by
  rcases n with _ | _ | n <;> cases x <;> simp [Group.ofCode, Group.code]

theorem Impulse.ofCode_eq_some {n : Nat} {x : Impulse} : Impulse.ofCode n = some x ↔ n = x.code := by
  rcases n with _ | _ | n <;> cases x <;> simp [Impulse.ofCode, Impulse.code]

theorem CueKind.ofCode_eq_some {n : Nat} {x : CueKind} : CueKind.ofCode n = some x ↔ n = x.code := by
  rcases n with _ | _ | _ | _ | _ | _ | _ | n <;> cases x <;> simp [CueKind.ofCode, CueKind.code]

theorem CueMode.ofCode_eq_some {n : Nat} {x : CueMode} : CueMode.ofCode n = some x ↔ n = x.code := by
  rcases n with _ | _ | _ | _ | _ | n <;> cases x <;> simp [CueMode.ofCode, CueMode.code]

/-- R30: a role is read where its number is one of three and the platform that follows an APPROACH or DISPATCH is one of 48. -/
theorem Role.ofCode_eq_none {role platform : Nat} :
    Role.ofCode role platform = Option.none ↔ 2 < role ∨ (role ≠ 0 ∧ (platform = 0 ∨ 48 < platform)) := by
  rcases role with _ | _ | _ | n <;> simp only [Role.ofCode] <;> (try split) <;>
    simp only [reduceCtorEq, true_iff, false_iff] <;> omega

/-! ## The receiver (R179) -/

/-- A frame that is complete or lost leaves the receiver in HUNT. -/
theorem Receiver.take_hunt {c : RxChar} {r : Receiver} (h : (r.take c).2 ≠ .nothing) : (r.take c).1 = .hunt := by
  cases r <;> simp only [Receiver.take, headerDone, checkDone] at * <;> (repeat' split at h) <;> simp_all

/-- In HUNT a character begins a frame or is passed over. -/
theorem Receiver.take_hunt_nothing (c : RxChar) : (Receiver.hunt.take c).2 = .nothing := rfl

/-! ## Page counts and aging -/

/-- R86, R89: a window has a page at least. -/
theorem one_le_pageCount (w : World) (x : Window) (rows : Nat) : 1 ≤ pageCount w x rows := by
  unfold pageCount clamp
  split
  · dsimp only
    split <;> omega
  · omega
  · omega

/-- R159: the next change of effective priority that has not been run. -/
theorem Cue.nextAging_eq_some {c : Cue} {x : Nat} : c.nextAging = some x ↔
    c.state = .queued ∧ c.aged + 1 < c.priority ∧ ∃ q, c.queuedAt = some q ∧ x = q + (c.aged + 1) * 60000000 := by
  unfold Cue.nextAging
  split
  · rename_i h
    simp only [Bool.and_eq_true, beq_iff_eq, decide_eq_true_eq] at h
    simp [h.1, h.2, Config.agingUs, eq_comm]
  · rename_i h
    simp only [Bool.and_eq_true, beq_iff_eq, decide_eq_true_eq] at h
    simp only [reduceCtorEq, false_iff]
    exact fun ⟨a, b, _⟩ => h ⟨a, b⟩

end Sys2Proof.Machine
end

