-- ==== Sys2Proof/Laws/Tables.lean ====
section
/-! SUPPORT. Laws/Tables.lean: what the shared operations over the tables do: which entries an insertion or a removal leaves, and
that each keeps its table in order (R35, R53, R71, R138). -/

namespace Sys2Proof.Machine

/-! ## Changing the entries a test picks -/

@[simp] theorem updateWhere_length {α : Type} (test : α → Bool) (f : α → α) (l : List α) :
    (updateWhere test f l).length = l.length := by simp [updateWhere]

theorem mem_updateWhere {α : Type} {test : α → Bool} {f : α → α} {l : List α} {x : α} :
    x ∈ updateWhere test f l ↔ ∃ y ∈ l, x = if test y then f y else y := by
  simp only [updateWhere, List.mem_map, eq_comm]

/-! ## The Service Table (R35) -/

theorem Service.before_trans {a b c : Service} (h : a.before b = true) (k : b.before c = true) : a.before c = true := by
  simp only [Service.before, Bool.or_eq_true, Bool.and_eq_true, decide_eq_true_eq, beq_iff_eq] at *
  omega

/-- Of two records with different codes one comes before the other. -/
theorem Service.before_or {a b : Service} (h : a.code ≠ b.code) : a.before b = true ∨ b.before a = true := by
  simp only [Service.before, Bool.or_eq_true, Bool.and_eq_true, decide_eq_true_eq, beq_iff_eq]
  omega

theorem mem_insertService {x r : Service} {l : List Service} : x ∈ insertService r l ↔ x = r ∨ x ∈ l := by
  induction l with
  | nil => simp [insertService]
  | cons y rest ih =>
    unfold insertService
    split
    · simp
    · simp only [List.mem_cons, ih]; tauto

@[simp] theorem insertService_length (r : Service) (l : List Service) : (insertService r l).length = l.length + 1 := by
  induction l with
  | nil => rfl
  | cons y rest ih =>
    unfold insertService
    split <;> simp [ih]

/-- An insertion of a code that is not in the table keeps table order. -/
theorem insertService_order {r : Service} {l : List Service} (h : l.Pairwise fun a b => a.before b = true)
    (hr : ∀ x ∈ l, x.code ≠ r.code) : (insertService r l).Pairwise fun a b => a.before b = true := by
  induction l with
  | nil => simp [insertService]
  | cons y rest ih =>
    rw [List.pairwise_cons] at h
    unfold insertService
    split
    · rename_i hb
      refine List.pairwise_cons.mpr ⟨?_, List.pairwise_cons.mpr h⟩
      intro x hx
      rcases List.mem_cons.mp hx with rfl | hx
      · exact hb
      · exact Service.before_trans hb (h.1 x hx)
    · rename_i hb
      refine List.pairwise_cons.mpr ⟨?_, ih h.2 fun x hx => hr x (List.mem_cons_of_mem _ hx)⟩
      intro x hx
      rcases mem_insertService.mp hx with rfl | hx
      · exact (Service.before_or (hr y List.mem_cons_self)).resolve_right hb
      · exact h.1 x hx

theorem mem_dropService {x : Service} {code : Nat} {l : List Service} : x ∈ dropService code l ↔ x ∈ l ∧ x.code ≠ code := by
  simp [dropService]

theorem dropService_order {code : Nat} {l : List Service} (h : l.Pairwise fun a b => a.before b = true) :
    (dropService code l).Pairwise fun a b => a.before b = true := h.filter _

/-- A record with its new contents is in the table, and so is every record of another code, and nothing else. -/
theorem World.mem_storeService {x r : Service} {w : World} :
    x ∈ (w.storeService r).services ↔ x = r ∨ x ∈ w.services ∧ x.code ≠ r.code := by
  simp only [World.storeService, mem_insertService, mem_dropService]

/-- Storing a record keeps table order. -/
theorem World.storeService_order {r : Service} {w : World} (h : w.services.Pairwise fun a b => a.before b = true) :
    (w.storeService r).services.Pairwise fun a b => a.before b = true :=
  insertService_order (dropService_order h) fun _ hx => (mem_dropService.mp hx).2

/-! ## The Text Pool, the Notice List and the cue table (R53, R71, R138) -/

theorem mem_insertText_imp {x t : StoredText} {l : List StoredText} (h : x ∈ insertText t l) : x = t ∨ x ∈ l := by
  induction l with
  | nil => simpa [insertText] using h
  | cons y rest ih =>
    unfold insertText at h
    split at h
    · simpa using h
    · split at h
      · exact (List.mem_cons.mp h).imp_right (List.mem_cons_of_mem _)
      · rcases List.mem_cons.mp h with rfl | h
        · exact .inr List.mem_cons_self
        · exact (ih h).imp_right (List.mem_cons_of_mem _)

theorem mem_insertText_self (t : StoredText) (l : List StoredText) : t ∈ insertText t l := by
  induction l with
  | nil => simp [insertText]
  | cons y rest ih =>
    unfold insertText
    split
    · simp
    · split
      · simp
      · exact List.mem_cons_of_mem _ ih

theorem insertText_order {t : StoredText} {l : List StoredText} (h : l.Pairwise fun a b => a.index < b.index) :
    (insertText t l).Pairwise fun a b => a.index < b.index := by
  induction l with
  | nil => simp [insertText]
  | cons y rest ih =>
    rw [List.pairwise_cons] at h
    unfold insertText
    split
    · rename_i hb
      refine List.pairwise_cons.mpr ⟨fun x hx => ?_, List.pairwise_cons.mpr h⟩
      rcases List.mem_cons.mp hx with rfl | hx
      · exact hb
      · exact hb.trans (h.1 x hx)
    · split
      · rename_i he
        exact List.pairwise_cons.mpr ⟨fun x hx => (beq_iff_eq.mp he) ▸ h.1 x hx, h.2⟩
      · rename_i hb he
        refine List.pairwise_cons.mpr ⟨fun x hx => ?_, ih h.2⟩
        rcases mem_insertText_imp hx with rfl | hx
        · simp only [beq_iff_eq] at he; omega
        · exact h.1 x hx

theorem mem_insertNotice_imp {x n : Notice} {l : List Notice} (h : x ∈ insertNotice n l) : x = n ∨ x ∈ l := by
  induction l with
  | nil => simpa [insertNotice] using h
  | cons y rest ih =>
    unfold insertNotice at h
    split at h
    · simpa using h
    · split at h
      · exact (List.mem_cons.mp h).imp_right (List.mem_cons_of_mem _)
      · rcases List.mem_cons.mp h with rfl | h
        · exact .inr List.mem_cons_self
        · exact (ih h).imp_right (List.mem_cons_of_mem _)

theorem mem_insertNotice_self (n : Notice) (l : List Notice) : n ∈ insertNotice n l := by
  induction l with
  | nil => simp [insertNotice]
  | cons y rest ih =>
    unfold insertNotice
    split
    · simp
    · split
      · simp
      · exact List.mem_cons_of_mem _ ih

theorem insertNotice_order {n : Notice} {l : List Notice} (h : l.Pairwise fun a b => a.id < b.id) :
    (insertNotice n l).Pairwise fun a b => a.id < b.id := by
  induction l with
  | nil => simp [insertNotice]
  | cons y rest ih =>
    rw [List.pairwise_cons] at h
    unfold insertNotice
    split
    · rename_i hb
      refine List.pairwise_cons.mpr ⟨fun x hx => ?_, List.pairwise_cons.mpr h⟩
      rcases List.mem_cons.mp hx with rfl | hx
      · exact hb
      · exact hb.trans (h.1 x hx)
    · split
      · rename_i he
        exact List.pairwise_cons.mpr ⟨fun x hx => (beq_iff_eq.mp he) ▸ h.1 x hx, h.2⟩
      · rename_i hb he
        refine List.pairwise_cons.mpr ⟨fun x hx => ?_, ih h.2⟩
        rcases mem_insertNotice_imp hx with rfl | hx
        · simp only [beq_iff_eq] at he; omega
        · exact h.1 x hx

theorem mem_insertCue_imp {x c : Cue} {l : List Cue} (h : x ∈ insertCue c l) : x = c ∨ x ∈ l := by
  induction l with
  | nil => simpa [insertCue] using h
  | cons y rest ih =>
    unfold insertCue at h
    split at h
    · simpa using h
    · split at h
      · exact (List.mem_cons.mp h).imp_right (List.mem_cons_of_mem _)
      · rcases List.mem_cons.mp h with rfl | h
        · exact .inr List.mem_cons_self
        · exact (ih h).imp_right (List.mem_cons_of_mem _)

theorem mem_insertCue_self (c : Cue) (l : List Cue) : c ∈ insertCue c l := by
  induction l with
  | nil => simp [insertCue]
  | cons y rest ih =>
    unfold insertCue
    split
    · simp
    · split
      · simp
      · exact List.mem_cons_of_mem _ ih

/-! ## The records of one string -/

@[simp] theorem World.channel_setChannel (w : World) (n m : StringNo) (c : Channel) :
    (w.setChannel n c).channel m = if m = n then c else w.channel m := by
  simp only [World.channel, World.setChannel, Fin.getElem_fin, Vector.getElem_set, Fin.ext_iff, eq_comm]

@[simp] theorem World.wall_setWall (w : World) (n m : StringNo) (x : Wall) :
    (w.setWall n x).wall m = if m = n then x else w.wall m := by
  simp only [World.wall, World.setWall, Fin.getElem_fin, Vector.getElem_set, Fin.ext_iff, eq_comm]

@[simp] theorem World.view_setView (w : World) (n m : StringNo) (v : View) :
    (w.setView n v).view m = if m = n then v else w.view m := by
  simp only [World.view, World.setView, Fin.getElem_fin, Vector.getElem_set, Fin.ext_iff, eq_comm]

@[simp] theorem World.latch_setLatch (w : World) (n m : StringNo) (l : LatchLine) :
    (w.setLatch n l).latch m = if m = n then l else w.latch m := by
  simp only [World.latch, World.setLatch, Fin.getElem_fin, Vector.getElem_set, Fin.ext_iff, eq_comm]

end Sys2Proof.Machine
end

