-- ==== Sys2Proof/Laws/Total.lean ====
section
/-! SUPPORT. Laws/Total.lean: every command completes: no meaning faults or refuses, so every step answers a next state. -/

namespace Sys2Proof.Machine

/-- Every command answers a next state in every state. -/
theorem exec_answers (c : Instr) (s : State) : ∃ t, exec c s = .next t := by
  cases c <;> exact ⟨_, rfl⟩

/-- Every step answers a next state. -/
theorem step_answers (s : State) : ∃ t, step s = .next t := by
  unfold step
  cases s.pending with
  | nil => exact ⟨s, rfl⟩
  | cons c rest => exact exec_answers c _

/-- The state a command leaves. -/
def ran (c : Instr) (s : State) : State :=
  match exec c s with
  | .next t => t
  | .fault _ => s
  | .refused _ => s

theorem exec_ran (c : Instr) (s : State) : exec c s = .next (ran c s) := by
  obtain ⟨t, h⟩ := exec_answers c s
  unfold ran
  rw [h]

end Sys2Proof.Machine
end

