-- ==== Sys2Proof/Laws/Transmitter.lean ====
section
/-! SUPPORT. Laws/Transmitter.lean: what placing reports and letting the transmitter begin leave of the control link (R184). -/

namespace Sys2Proof.Machine

/-- All that an idle transmitter can do: nothing, begin the reply in the slot, or begin the report at the head of the queue. -/
theorem Link.kick_cases (l : Link) : l.kick = l ∨ (∃ r, l.tx = none ∧ l.slot = some r ∧ l.kick = { l with tx := some (.reply r) }) ∨
    ∃ r rest, l.tx = none ∧ l.slot = none ∧ l.reports = r :: rest ∧
      l.kick = { l with tx := some (.report r), reports := rest } := by
  unfold Link.kick
  split
  · exact .inl rfl
  · rename_i h
    simp only [Bool.or_eq_true, not_or, Bool.not_eq_true, Option.isSome_eq_false_iff, Option.isNone_iff_eq_none] at h
    split
    · rename_i r hr
      exact .inr (.inl ⟨r, h.1, hr, rfl⟩)
    · rename_i hs
      split
      · rename_i r rest hr
        exact .inr (.inr ⟨r, rest, h.1, hs, hr, rfl⟩)
      · exact .inl rfl

@[simp] theorem Link.kick_rate (l : Link) : l.kick.rate = l.rate := by
  rcases l.kick_cases with h | ⟨_, _, _, h⟩ | ⟨_, _, _, _, _, h⟩ <;> rw [h]

@[simp] theorem Link.kick_newRate (l : Link) : l.kick.newRate = l.newRate := by
  rcases l.kick_cases with h | ⟨_, _, _, h⟩ | ⟨_, _, _, _, _, h⟩ <;> rw [h]

@[simp] theorem Link.kick_rx (l : Link) : l.kick.rx = l.rx := by
  rcases l.kick_cases with h | ⟨_, _, _, h⟩ | ⟨_, _, _, _, _, h⟩ <;> rw [h]

@[simp] theorem Link.kick_queue (l : Link) : l.kick.queue = l.queue := by
  rcases l.kick_cases with h | ⟨_, _, _, h⟩ | ⟨_, _, _, _, _, h⟩ <;> rw [h]

@[simp] theorem Link.kick_partReady (l : Link) : l.kick.partReady = l.partReady := by
  rcases l.kick_cases with h | ⟨_, _, _, h⟩ | ⟨_, _, _, _, _, h⟩ <;> rw [h]

@[simp] theorem Link.kick_hostReady (l : Link) : l.kick.hostReady = l.hostReady := by
  rcases l.kick_cases with h | ⟨_, _, _, h⟩ | ⟨_, _, _, _, _, h⟩ <;> rw [h]

@[simp] theorem Link.kick_slot (l : Link) : l.kick.slot = l.slot := by
  rcases l.kick_cases with h | ⟨_, _, _, h⟩ | ⟨_, _, _, _, _, h⟩ <;> rw [h]

@[simp] theorem Link.kick_losses (l : Link) : l.kick.losses = l.losses := by
  rcases l.kick_cases with h | ⟨_, _, _, h⟩ | ⟨_, _, _, _, _, h⟩ <;> rw [h]

@[simp] theorem Link.kick_reportSeq (l : Link) : l.kick.reportSeq = l.reportSeq := by
  rcases l.kick_cases with h | ⟨_, _, _, h⟩ | ⟨_, _, _, _, _, h⟩ <;> rw [h]

@[simp] theorem Link.kick_dropped (l : Link) : l.kick.dropped = l.dropped := by
  rcases l.kick_cases with h | ⟨_, _, _, h⟩ | ⟨_, _, _, _, _, h⟩ <;> rw [h]

@[simp] theorem Link.place_rate (r : Report) (l : Link) : (l.place r).rate = l.rate := by unfold Link.place; split <;> rfl

@[simp] theorem Link.place_newRate (r : Report) (l : Link) : (l.place r).newRate = l.newRate := by unfold Link.place; split <;> rfl

@[simp] theorem Link.place_rx (r : Report) (l : Link) : (l.place r).rx = l.rx := by unfold Link.place; split <;> rfl

@[simp] theorem Link.place_queue (r : Report) (l : Link) : (l.place r).queue = l.queue := by unfold Link.place; split <;> rfl

@[simp] theorem Link.place_partReady (r : Report) (l : Link) : (l.place r).partReady = l.partReady := by unfold Link.place; split <;> rfl

@[simp] theorem Link.place_hostReady (r : Report) (l : Link) : (l.place r).hostReady = l.hostReady := by unfold Link.place; split <;> rfl

@[simp] theorem Link.place_slot (r : Report) (l : Link) : (l.place r).slot = l.slot := by unfold Link.place; split <;> rfl

@[simp] theorem Link.place_losses (r : Report) (l : Link) : (l.place r).losses = l.losses := by unfold Link.place; split <;> rfl

@[simp] theorem Link.place_tx (r : Report) (l : Link) : (l.place r).tx = l.tx := by unfold Link.place; split <;> rfl

/-- A report takes the next number whether it finds room or not. -/
@[simp] theorem Link.place_reportSeq (r : Report) (l : Link) : (l.place r).reportSeq = l.reportSeq + 1 := by
  unfold Link.place; split <;> rfl

/-- The report queue never holds more than 32. -/
theorem Link.place_room (r : Report) (l : Link) (h : l.reports.length ≤ 32) : (l.place r).reports.length ≤ 32 := by
  unfold Link.place
  split
  · rename_i hr
    simp only [Config.reportDepth] at hr
    simp only [List.length_append, List.length_cons, List.length_nil]
    omega
  · exact h

theorem Link.kick_room (l : Link) (h : l.reports.length ≤ 32) : l.kick.reports.length ≤ 32 := by
  rcases l.kick_cases with e | ⟨_, _, _, e⟩ | ⟨_, rest, _, _, hr, e⟩ <;> rw [e]
  · exact h
  · exact h
  · rw [hr] at h
    simp only [List.length_cons] at h
    show rest.length ≤ 32
    omega

@[simp] theorem Link.carries_rate (rs : List Report) (l : Link) : (l.carries rs).rate = l.rate := by
  have h (k : Link) : (rs.foldl (fun x r => (x.place r).kick) k).rate = k.rate := by
    induction rs generalizing k with
    | nil => rfl
    | cons r rest ih => rw [List.foldl_cons, ih]; simp
  exact (h _).trans (Link.kick_rate l)

@[simp] theorem Link.carries_newRate (rs : List Report) (l : Link) : (l.carries rs).newRate = l.newRate := by
  have h (k : Link) : (rs.foldl (fun x r => (x.place r).kick) k).newRate = k.newRate := by
    induction rs generalizing k with
    | nil => rfl
    | cons r rest ih => rw [List.foldl_cons, ih]; simp
  exact (h _).trans (Link.kick_newRate l)

@[simp] theorem Link.carries_rx (rs : List Report) (l : Link) : (l.carries rs).rx = l.rx := by
  have h (k : Link) : (rs.foldl (fun x r => (x.place r).kick) k).rx = k.rx := by
    induction rs generalizing k with
    | nil => rfl
    | cons r rest ih => rw [List.foldl_cons, ih]; simp
  exact (h _).trans (Link.kick_rx l)

@[simp] theorem Link.carries_queue (rs : List Report) (l : Link) : (l.carries rs).queue = l.queue := by
  have h (k : Link) : (rs.foldl (fun x r => (x.place r).kick) k).queue = k.queue := by
    induction rs generalizing k with
    | nil => rfl
    | cons r rest ih => rw [List.foldl_cons, ih]; simp
  exact (h _).trans (Link.kick_queue l)

@[simp] theorem Link.carries_partReady (rs : List Report) (l : Link) : (l.carries rs).partReady = l.partReady := by
  have h (k : Link) : (rs.foldl (fun x r => (x.place r).kick) k).partReady = k.partReady := by
    induction rs generalizing k with
    | nil => rfl
    | cons r rest ih => rw [List.foldl_cons, ih]; simp
  exact (h _).trans (Link.kick_partReady l)

@[simp] theorem Link.carries_hostReady (rs : List Report) (l : Link) : (l.carries rs).hostReady = l.hostReady := by
  have h (k : Link) : (rs.foldl (fun x r => (x.place r).kick) k).hostReady = k.hostReady := by
    induction rs generalizing k with
    | nil => rfl
    | cons r rest ih => rw [List.foldl_cons, ih]; simp
  exact (h _).trans (Link.kick_hostReady l)

@[simp] theorem Link.carries_slot (rs : List Report) (l : Link) : (l.carries rs).slot = l.slot := by
  have h (k : Link) : (rs.foldl (fun x r => (x.place r).kick) k).slot = k.slot := by
    induction rs generalizing k with
    | nil => rfl
    | cons r rest ih => rw [List.foldl_cons, ih]; simp
  exact (h _).trans (Link.kick_slot l)

@[simp] theorem Link.carries_losses (rs : List Report) (l : Link) : (l.carries rs).losses = l.losses := by
  have h (k : Link) : (rs.foldl (fun x r => (x.place r).kick) k).losses = k.losses := by
    induction rs generalizing k with
    | nil => rfl
    | cons r rest ih => rw [List.foldl_cons, ih]; simp
  exact (h _).trans (Link.kick_losses l)

theorem Link.carries_room (rs : List Report) (l : Link) (h : l.reports.length ≤ 32) : (l.carries rs).reports.length ≤ 32 := by
  have hk (k : Link) (hk : k.reports.length ≤ 32) :
      (rs.foldl (fun x r => (x.place r).kick) k).reports.length ≤ 32 := by
    induction rs generalizing k with
    | nil => exact hk
    | cons r rest ih => exact ih _ (Link.kick_room _ (Link.place_room r k hk))
  exact hk _ (Link.kick_room l h)

end Sys2Proof.Machine
end

