-- ==== Sys2Proof/Laws/Wanted.lean ====
section
/-! SUPPORT. Laws/Wanted.lean: the terms in which claims speak of a wanted commit, of notices and of recomposed rows, and the functions of
the machine that decide them, tied once. -/

namespace Sys2Proof.Machine

/-! ## A wanted commit (R101) -/

theorem mem_allStrings (n : StringNo) : n ∈ allStrings := by revert n; decide

theorem World.wanted_iff (w : World) : w.wanted = true ↔ w.Wants := by
  simp [World.wanted, World.Wants, World.stringWants, List.any_eq_true, mem_allStrings, and_assoc]

/-! ## Notices (R74) -/

theorem Notice.ended_iff (e : Env) (n : Notice) : n.ended e.nms = true ↔ n.Over e := by
  unfold Notice.ended Notice.Over
  cases n.endOff <;> simp

theorem Notice.begun_iff (e : Env) (n : Notice) : n.begun e.nms = true ↔ n.Begun e := by
  unfold Notice.begun Notice.Begun
  cases n.startOff <;> simp

/-! ## The sources that a cause of the Service Table can change (R94) -/

theorem Filter.services_takes_iff (x : Source) : Filter.services.takes x = true ↔ x.showsServices := by
  cases x <;> simp [Filter.services, Filter.takes, Source.showsServices]

theorem Filter.platforms_takes_iff (x : Source) : Filter.platforms.takes x = true ↔ ∃ p, x = .platform p := by
  cases x <;> simp [Filter.platforms, Filter.takes]

end Sys2Proof.Machine
end

