-- ==== Sys2Proof/Tests/Bench.lean ====
section
/-! SUPPORT. Tests/Bench.lean: small states for the tests, each a change to the state after reset. -/

namespace Sys2Proof.Tests
open Sys2Proof Sys2Proof.Machine

/-- Characters of a string. -/
def chars (l : List Nat) : Chars := l.map (BitVec.ofNat 8)

/-- Change the departure picture. -/
def world (f : World → World) (s : State) : State := { s with world := f s.world }

/-- Change the Time Base. -/
def clock (f : TimeBase → TimeBase) (s : State) : State := { s with time := f s.time }

/-- Validity SET, T at the start of the nominal second. -/
def timed (us : Nat) (s : State) : State := clock (fun t => { t with validity := .setTime, base := us }) s

/-- A time of day in microseconds. -/
def hms (h m sec : Nat) : Nat := (h * 3600 + m * 60 + sec) * 1000000

/-- Change one monitor. -/
def line (i : LineNo) (f : Monitor → Monitor) (s : State) : State := s.setLine i (f s.lines[i])

/-- Change one string channel. -/
def channel (n : StringNo) (f : Channel → Channel) (s : State) : State :=
  world (fun w => w.setChannel n (f (w.channel n))) s

/-- Change the Commit Controller's record of one string. -/
def wall (n : StringNo) (f : Wall → Wall) (s : State) : State := world (fun w => w.setWall n (f (w.wall n))) s

/-- Change the Commit Controller. -/
def commit (f : Commit → Commit) (s : State) : State := world (fun w => { w with commit := f w.commit }) s

/-- Change the announcement link. -/
def unit (f : AnnLink → AnnLink) (s : State) : State := world (fun w => { w with au := f w.au }) s

/-- Change one slave clock line. -/
def dial (i : Fin 4) (f : DialLine → DialLine) (s : State) : State := s.setDialLine i (f s.dials[i])

/-- Change the control link. -/
def link (f : Link → Link) (s : State) : State := s.setLink (f s.link)

/-- A record of code, service minute, platform and state; the rest plain. D is 180. -/
def service (code : Nat) (sm : Int) (platform : Nat) (state : SvcState) : Service where
  code := code
  schedHm := ((sm + 180) % 1440).toNat
  schedSm := sm
  delay := .minutes 0
  effSm := sm
  platform := platform
  side := .none
  prev := none
  changeMs := none
  dest := 1
  vias := []
  remark := none
  operator := 0
  boardLead := 0
  state := state
  overdue := false
  attention := false
  departedMs := none
  announced := none
  changeCue := none
  rev := 0

/-- The records of the table. -/
def table (l : List Service) (s : State) : State := world (fun w => { w with services := l }) s

/-- A text of one cell. -/
def text (index uses : Nat) : StoredText := { index := index, chars := [0x41], cells := 1, uses := uses, rev := 0 }

/-- The stored texts, one cell each. -/
def texts (l : List StoredText) (s : State) : State :=
  world (fun w => { w with texts := l, freeCells := 1536 - (l.map (·.cells)).sum }) s

/-- A WALL notice. -/
def notice (id : Nat) : Notice where
  id := id
  text := 1
  scope := .wall
  priority := 1
  startMs := none
  endMs := none
  period := 0
  startOff := none
  endOff := none
  active := true
  rev := 0

/-- A host cue of kind CUSTOM on text 1. -/
def cue (handle slot priority : Nat) (state : CueState) : Cue where
  handle := handle
  slot := slot
  origin := .host
  kind := .custom
  subject := 1
  mode := .oneShot
  line := none
  delayS := none
  periodS := none
  repeatsLeft := none
  leadMin := none
  zones := 1
  priority := priority
  seq := 0
  oldPlatform := none
  timer := none
  queuedAt := none
  startedDelay := none
  preempted := false
  state := state
  subjectGone := false
  aged := 0

/-- The cues of the table. -/
def cues (l : List Cue) (s : State) : State := world (fun w => { w with cues := l }) s

/-- A play of a cue in its zones. -/
def playOf (c : Cue) : Play where
  handle := c.handle
  origin := c.origin
  kind := c.kind
  subject := c.subject
  zones := c.zones
  priority := c.priority
  startedDelay := none
  startAt := 0

/-- A play channel in a phase with a play. -/
def play (i : Fin 4) (phase : Phase) (c : Cue) (timer : Option Nat) (s : State) : State :=
  unit (fun a => { a with
    channels := a.channels.set i { phase := phase, play := some (playOf c), timer := timer } }) s

/-- String n enabled with two modules of two rows, its channel READY. -/
def enabled (n : StringNo) (s : State) : State :=
  channel n (fun c => { c with
    state := .ready, settings := { c.settings with enabled := true, modules := 2, rows := 2 } })
    (world (fun w => w.setView n { w.view n with targets := [.empty, .empty, .empty, .empty] }) s)

/-- String n lit, its four rows EMPTY. -/
def lit (n : StringNo) (s : State) : State :=
  wall n (fun x => { x with lit := .lit, restage := false, shown := [.empty, .empty, .empty, .empty] }) (enabled n s)

/-- A row of a staged set. -/
def stagedRow (i : Nat) (acked : Bool) : StagedRow := { row := i, rowRec := .clock (chars [0x31]), acked := acked }

/-- An exchange that waits for its reply. -/
def awaiting (f : Frame) (attempt : Nat) : Exchange :=
  { frame := f, attempt := attempt, orphan := false, sendEnds := none, replyTimer := some 30000, reply := [] }

/-- A link test that runs, to the end of a test begun at 0 at I 260, F 3 (R122, R136). -/
def running : LinkTest := .running [] 9374

/-- Bytes as characters received without a framing error. -/
def received (l : List Byte) : List RxChar := l.map fun b => { byte := b, framed := true }

/-- The channel waits for the reply of an exchange, its frame at the head of the queue (R124). -/
def waitingOn (x : Exchange) (c : Channel) : Channel :=
  { c with state := .waiting, exchange := some x, queue := [{ frame := x.frame, attempts := x.attempt }] }

/-- String n takes part in a commit in STAGING, the STAGE_ROW of row 1 on its line. -/
def staging (n : StringNo) (attempt : Nat) (s : State) : State :=
  channel n (waitingOn (awaiting (.stageRow 1 1 1 (.clock (chars [0x31]))) attempt))
    (wall n (fun x => { x with part := .staging, restage := false, staged := [stagedRow 0 true, stagedRow 1 false] })
      (commit (fun c => { c with state := .staging, deadlineTimer := some 1500000 }) (enabled n s)))

end Sys2Proof.Tests
end

