-- ==== Sys2Proof/Tests/Slice0.lean ====
section
/-! SUPPORT. Tests/Slice0.lean: small tests. First the well-formedness check, one ill-formed term for each thing it refuses; then
single steps whose results are the manual's own: its worked examples and tables, named beside each test, and rules
worked by hand. -/

namespace Sys2Proof.Tests
open Sys2Proof Sys2Proof.Machine

set_option maxRecDepth 8000

/-! ## Well-formedness: what it refuses -/

/-- A field that is too wide for its byte, its two bytes or its four. -/
theorem test_wf_widths : fits8 255 = true ∧ fits8 256 = false ∧ fits16 65535 = true ∧ fits16 65536 = false ∧
    fits32 4294967295 = true ∧ fits32 4294967296 = false := by decide

theorem test_wf_line_set : ∀ r ∈ [LineSetReq.event 256 0 50 0 50 0 0, .event 13 0 50 0 50 0 0, .event 1 256 50 0 50 0 0,
      .event 1 0 65536 0 50 0 0, .event 1 0 50 65536 50 0 0, .event 1 0 50 0 65536 0 0, .event 1 0 50 0 50 256 1,
      .event 1 0 50 0 50 1 256, .event 1 0 50 0 50 0 1, .ref 256 50 0 20 500 100 2000 0, .ref 0 65536 0 20 500 100 2000 0,
      .ref 0 50 65536 20 500 100 2000 0, .ref 0 50 0 65536 500 100 2000 0, .ref 0 50 0 20 65536 100 2000 0,
      .ref 0 50 0 20 500 65536 2000 0, .ref 0 50 0 20 500 100 65536 0, .ref 0 50 0 20 500 100 2000 256],
    (Instr.lineSet 0 1 r).wf = false := by decide

/-- A plain SERVICE_PUT: 5220 at 18:30 to text 1 (3.5, "a put into a full table"). -/
def plainPut : ServicePutReq where
  code := 5220
  schedHm := 1110
  delay := 0
  platform := 0
  side := 0
  dest := 1
  remark := 0
  operator := 0
  boardLead := 0
  vias := []

theorem test_wf_service_put : (Instr.servicePut 0 1 plainPut).wf = true ∧
    ∀ r ∈ [{ plainPut with code := 65536 }, { plainPut with schedHm := 65536 }, { plainPut with delay := 65536 },
      { plainPut with platform := 256 }, { plainPut with side := 256 }, { plainPut with dest := 256 },
      { plainPut with remark := 256 }, { plainPut with operator := 256 }, { plainPut with boardLead := 256 },
      { plainPut with vias := List.replicate 256 1 }, { plainPut with vias := [1, 256] }],
    (Instr.servicePut 0 1 r).wf = false := by decide

/-- An amendment with no part present. -/
def noAmend : AmendReq := { code := 1, delay := none, platform := none, remark := none, target := none }

theorem test_wf_service_amend : (Instr.serviceAmend 0 1 noAmend).wf = true ∧
    ∀ r ∈ [{ noAmend with code := 65536 }, { noAmend with delay := some 65536 }, { noAmend with remark := some 256 },
      { noAmend with target := some 256 }, { noAmend with platform := some (256, 0) },
      { noAmend with platform := some (0, 256) }], (Instr.serviceAmend 0 1 r).wf = false := by decide

/-- The six policy values of R59. -/
def plainPolicy : LifecycleReq :=
  { boardLead := 10, closeLead := 60, departedHold := 120, cancelHold := 10, abandon := 120, changeDisplay := 10 }

theorem test_wf_lifecycle_set : (Instr.lifecycleSet 0 1 plainPolicy).wf = true ∧
    ∀ r ∈ [{ plainPolicy with boardLead := 256 }, { plainPolicy with closeLead := 65536 },
      { plainPolicy with departedHold := 65536 }, { plainPolicy with cancelHold := 256 },
      { plainPolicy with abandon := 256 }, { plainPolicy with changeDisplay := 256 }],
    (Instr.lifecycleSet 0 1 r).wf = false := by decide

/-- A WALL notice without start or end. -/
def plainNotice : NoticePutReq :=
  { id := 21, text := 1, scope := .wall, priority := 1, startMs := none, endMs := none, period := 0 }

theorem test_wf_notice_put : (Instr.noticePut 0 1 plainNotice).wf = true ∧
    ∀ r ∈ [{ plainNotice with id := 256 }, { plainNotice with text := 256 }, { plainNotice with scope := .service 65536 },
      { plainNotice with priority := 256 }, { plainNotice with startMs := some 4294967296 },
      { plainNotice with endMs := some 4294967296 }, { plainNotice with period := 256 }],
    (Instr.noticePut 0 1 r).wf = false := by decide

/-- A window record with the CLOCK source. -/
def plainWindow : WindowReq := { enabled := true, firstRow := 0, rowCount := 1, source := .clock, period := 0 }

theorem test_wf_view_set : (Instr.viewSet 0 1 1 plainWindow plainWindow plainWindow plainWindow).wf = true ∧
    (∀ r ∈ [{ plainWindow with firstRow := 256 }, { plainWindow with rowCount := 256 }, { plainWindow with period := 256 },
      { plainWindow with source := .departures 0 false false 256 }, { plainWindow with source := .platform 256 },
      { plainWindow with source := .fixed 256 }, { plainWindow with source := .unknown 4 },
      { plainWindow with source := .unknown 256 }],
      (Instr.viewSet 0 1 1 r plainWindow plainWindow plainWindow).wf = false ∧
        (Instr.viewSet 0 1 1 plainWindow r plainWindow plainWindow).wf = false ∧
        (Instr.viewSet 0 1 1 plainWindow plainWindow r plainWindow).wf = false ∧
        (Instr.viewSet 0 1 1 plainWindow plainWindow plainWindow r).wf = false) ∧
    (Instr.viewSet 0 1 256 plainWindow plainWindow plainWindow plainWindow).wf = false := by decide

/-- The settings of R117. -/
def plainCommit : CommitSetReq :=
  { settle := 200, deadline := 1500, stagger := 40, batchLimit := 10, refresh := 4, reports := true }

theorem test_wf_commit_set : (Instr.commitSet 0 1 plainCommit).wf = true ∧
    ∀ r ∈ [{ plainCommit with settle := 65536 }, { plainCommit with deadline := 65536 },
      { plainCommit with stagger := 256 }, { plainCommit with batchLimit := 256 }, { plainCommit with refresh := 256 }],
    (Instr.commitSet 0 1 r).wf = false := by decide

/-- A STRING_SET of string 11: two modules of six rows, BUSY_LINE (7.10). -/
def plainString : StringSetReq where
  string := 11
  enable := true
  divI := 260
  divF := 3
  modules := 2
  rows := 6
  group := 0
  flow := 1
  pause := 0xF8
  resume := 0xF9
  timeout := 20
  retries := 1

theorem test_wf_string_set : (Instr.stringSet 0 1 plainString).wf = true ∧
    ∀ r ∈ [{ plainString with string := 256 }, { plainString with divI := 65536 }, { plainString with divF := 256 },
      { plainString with modules := 256 }, { plainString with rows := 256 }, { plainString with group := 256 },
      { plainString with flow := 256 }, { plainString with timeout := 256 }, { plainString with retries := 256 }],
    (Instr.stringSet 0 1 r).wf = false := by decide

/-- A policy of a kind with nothing further set. -/
def plainKind (k : Nat) : PolicyReq := { kind := k, enable := false, priority := 0, a := 0, b := 0, c := 0, d := 0 }

theorem test_wf_policy_set : (∀ k ∈ [0, 1, 2, 3, 4, 5, 6, 255], (Instr.policySet 0 1 (plainKind k)).wf = true) ∧
    ∀ r ∈ [plainKind 256, { plainKind 0 with priority := 256 }, { plainKind 1 with a := 256 }, { plainKind 1 with b := 256 },
      { plainKind 1 with c := 256 }, { plainKind 1 with d := 256 }, { plainKind 2 with a := 256 },
      { plainKind 2 with b := 65536 }, { plainKind 2 with c := 1 }, { plainKind 2 with d := 1 }, { plainKind 0 with a := 1 },
      { plainKind 3 with b := 1 }, { plainKind 4 with c := 1 }, { plainKind 5 with d := 1 },
      { plainKind 6 with priority := 1 }, { plainKind 6 with enable := true }],
    (Instr.policySet 0 1 r).wf = false := by decide

/-- A cue of a mode on service 5220. -/
def plainCue (mode : Nat) : CuePutReq where
  kind := 3
  subject := 5220
  mode := mode
  zones := 1
  priority := 2
  line := 0
  delayS := 0
  periodS := 0
  repeats := 0
  leadMin := 0

theorem test_wf_cue_put : (∀ m ∈ [0, 1, 2, 3, 4, 5], (Instr.cuePut 0 1 (plainCue m)).wf = true) ∧
    ∀ r ∈ [{ plainCue 0 with kind := 256 }, { plainCue 0 with subject := 65536 }, plainCue 256,
      { plainCue 0 with priority := 256 }, { plainCue 0 with line := 1 }, { plainCue 0 with delayS := 1 },
      { plainCue 0 with periodS := 1 }, { plainCue 0 with repeats := 1 }, { plainCue 0 with leadMin := 1 },
      { plainCue 1 with line := 256 }, { plainCue 1 with delayS := 65536 }, { plainCue 1 with periodS := 1 },
      { plainCue 1 with repeats := 1 }, { plainCue 1 with leadMin := 1 }, { plainCue 2 with line := 1 },
      { plainCue 2 with delayS := 1 }, { plainCue 2 with periodS := 65536 }, { plainCue 2 with repeats := 256 },
      { plainCue 2 with leadMin := 1 }, { plainCue 3 with line := 256 }, { plainCue 3 with delayS := 65536 },
      { plainCue 3 with periodS := 65536 }, { plainCue 3 with repeats := 256 }, { plainCue 3 with leadMin := 1 },
      { plainCue 4 with line := 1 }, { plainCue 4 with delayS := 1 }, { plainCue 4 with periodS := 1 },
      { plainCue 4 with repeats := 1 }, { plainCue 4 with leadMin := 256 }], (Instr.cuePut 0 1 r).wf = false := by decide

theorem test_wf_query : ∀ q ∈ [(256, 0, 0, 0), (3, 65536, 0, 0), (3, 1, 1, 0), (3, 1, 0, 1), (5, 256, 0, 0), (5, 1, 1, 0),
      (5, 1, 0, 1), (11, 256, 0, 0), (11, 1, 1, 0), (11, 1, 0, 1), (8, 256, 0, 0), (8, 1, 256, 0), (8, 1, 0, 256),
      (10, 256, 0, 0), (10, 1, 256, 0), (10, 1, 0, 256), (0, 1, 0, 0), (0, 0, 1, 0), (0, 0, 0, 1)],
    (Instr.query 0 1 q.1 q.2.1 q.2.2.1 q.2.2.2).wf = false := by decide

theorem test_wf_fields : ∀ c ∈ [Instr.timeSet 0 1 4294967296, .timeStep 0 1 32768, .timeStep 0 1 (-32769), .clockSet 0 1 256 0,
      .clockSet 0 1 0 65536, .lineClear 0 1 65536, .serviceDrop 0 1 65536, .textPut 0 1 256 [0x41],
      .textPut 0 1 1 (List.replicate 256 0x41), .textDrop 0 1 256, .noticeDrop 0 1 256, .composeSet 0 1 256,
      .linkTest 0 1 256, .zoneMapSet 0 1 (List.replicate 47 1) 1, .cueCancel 0 1 65536, .auSet 0 1 65536 0 0,
      .auSet 0 1 0 65536 0, .auSet 0 1 0 0 65536, .dialLineSet 0 1 256 true 0, .dialLineSet 0 1 1 true 65536,
      .dialSet 0 1 256 0 0, .dialSet 0 1 1 65536 0, .dialSet 0 1 1 0 256, .linkSet 0 1 4294967296, .unknownKind 0 1 256,
      .unknownKind 0 1 1, .unknownKind 0 1 0x0D, .unknownKind 0 1 0x11, .unknownKind 0 1 0x21, .playing 0 65536,
      .refused 0 65536 0, .refused 0 1 256, .done 0 65536, .stopped 0 65536, .ackStage 0 0 256 0 0 false,
      .ackStage 0 0 1 256 0 false, .ackStage 0 0 1 0 256 false, .status 0 0 256 noFlags,
      .linkTestResult 0 0 (List.replicate 17 { byte := 0, framed := true })], c.wf = false := by decide

/-- A tag of more than a byte, on every request. -/
theorem test_wf_tags : ∀ c ∈ [Instr.timeSet 0 256 0, .timeStep 0 256 1, .clockSet 0 256 0 0,
      .lineSet 0 256 (.event 1 0 50 0 50 0 0), .lineClear 0 256 1, .servicePut 0 256 plainPut, .serviceAmend 0 256 noAmend,
      .serviceDrop 0 256 1, .textPut 0 256 1 [0x41], .textDrop 0 256 1, .lifecycleSet 0 256 plainPolicy,
      .noticePut 0 256 plainNotice, .noticeDrop 0 256 1, .viewSet 0 256 1 plainWindow plainWindow plainWindow plainWindow,
      .composeSet 0 256 1, .batchOpen 0 256, .batchClose 0 256, .commitSet 0 256 plainCommit, .stringSet 0 256 plainString,
      .linkTest 0 256 1, .policySet 0 256 (plainKind 0), .zoneMapSet 0 256 (List.replicate 48 1) 1,
      .cuePut 0 256 (plainCue 0), .cueCancel 0 256 1, .auSet 0 256 0 0 0, .dialLineSet 0 256 1 true 0, .dialSet 0 256 1 0 0,
      .query 0 256 0 0 0 0, .restart 0 256, .linkSet 0 256 9600, .unknownKind 0 256 0], c.wf = false := by decide

theorem test_wf_no_body : Request.wf .malformed = false ∧ Request.wf .unknownKind = false := by decide

/-! ## Station time -/

/-- 1.2, "the autumn change": at 03:00:05 a step of -60 minutes gives 02:00:05 with roll held set, and 3,895,000 ms to a service
at service minute 5; the service minute is -60, its milliseconds rounded down (R6). -/
theorem test_time_step_autumn :
    let t := ran (.timeStep 0 1 (-60)) (timed (hms 3 0 5) State.reset)
    t.time.station = hms 2 0 5 ∧ t.time.rollHeld = true ∧ t.env.nms = -3595000 ∧ t.env.timeTo 5 = 3895000 ∧
      t.env.serviceMinute = -60 := by decide

/-- R11: +1440 minutes raise a day roll although T is unchanged; -1440 set roll held. -/
theorem test_time_step_whole_day :
    let s := table [service 6140 1420 0 .planned] (timed (hms 18 0 0) State.reset)
    (ran (.timeStep 0 1 1440) s).world.services = [] ∧ (ran (.timeStep 0 1 1440) s).time.station = hms 18 0 0 ∧
      (ran (.timeStep 0 1 (-1440)) s).time.rollHeld = true := by decide

/-- 1.6, "single pulses": F, S and TRIM_LIMIT after one slewed pulse, row by row. -/
theorem test_discipline_single_pulses :
    let f (mode : RefMode) (trim e : Int) :=
      let t := TimeBase.slewBy e { TimeBase.reset with mode := mode, trim := trim }
      (t.trim, t.slew, t.trimLimit)
    f .second 12 48 = (9, -48, false) ∧ f .minute 0 1920 = (-2, -1920, false) ∧ f .second 0 24 = (-2, -24, false) ∧
      f .second 0 (-24) = (2, 24, false) ∧ f .second (-199) 80 = (-200, -80, true) ∧
      f .second 0 (-4500) = (200, 4500, true) := by decide

/-- 1.6, "single pulses": the next nominal second adds 999,961 µs, and 998,078 µs in the second row. -/
theorem test_nominal_second_share :
    let t := ran .nominalSecond (clock (fun t => { t with trim := 9, slew := -48 }) State.reset)
    t.time.increment = 999961 ∧ t.time.slew = 0 ∧
      (ran .nominalSecond (clock (fun t => { t with trim := -2, slew := -1920 }) State.reset)).time.increment = 998078 := by
  decide

/-- 1.6, "acquiring": the second pulse at the right spacing locks and finds an error of -3,500,000, which is held; the third
confirms it and steps T by +3,499,930. -/
theorem test_discipline_confirms_a_step :
    let t := { TimeBase.reset with
      validity := .setTime, base := hms 6 16 56 + 500070, mode := .minute, refState := .locked
      pendingStep := some (-3500000) }
    ({ t with pendingStep := none }.discipline (hms 6 15 56 + 500000)).1.pendingStep = some (-3500000) ∧
      (t.discipline (hms 6 16 56 + 500070)).1.station = hms 6 17 0 ∧
      (t.discipline (hms 6 16 56 + 500070)).1.pendingStep = none ∧
      ((t.discipline (hms 6 16 56 + 500070)).2.map (·.1)) = some 3499930 := by decide

/-- R8: the first TIME_SET while UNSET. -/
theorem test_time_set_first :
    let t := ran (.timeSet 250 1 86399999) State.reset
    t.time.validity = .setTime ∧ t.time.station = 86399999000 ∧ t.time.stepMark = some 250 := by decide

/-- 1.6, "a TIME_SET while a confirmation is pending": T stays, the pending step goes. -/
theorem test_time_set_locked :
    let t := ran (.timeSet 0 1 22620400) (clock (fun t => { t with
      mode := .minute, refState := .locked, pendingStep := some (-3500000) }) (timed (hms 6 16 53 + 500000) State.reset))
    t.time.station = hms 6 16 53 + 500000 ∧ t.time.pendingStep = none := by decide

/-- R15, R20: the watch expires into HOLDOVER and is reported. -/
theorem test_watch_expiry :
    let t := ran .watchExpiry (clock (fun t => { t with
      mode := .minute, refState := .locked, watch := some 90000000, pendingStep := some 5 }) State.reset)
    t.time.refState = .holdover ∧ t.time.pendingStep = none ∧ t.time.elapsed = 90000000 ∧
      t.link.tx = some (.report { number := 0, dropped := 0, report := .referenceState .locked .holdover .minute 0 }) := by
  decide

/-- Codes that R12, R30, R37, R120 and R172 do not name are no value of theirs. -/
theorem test_unknown_codes : RefMode.ofCode 3 = none ∧ Role.ofCode 3 1 = none ∧ Role.ofCode 1 0 = none ∧
    Role.ofCode 2 49 = none ∧ Side.ofCode 3 = none ∧ FlowMode.ofCode 3 = none ∧ Group.ofCode 2 = none ∧
    Impulse.ofCode 2 = none := by decide

/-- R12: MINUTE from NONE is ACQUIRING; a D above 1439 is refused. -/
theorem test_clock_set : (ran (.clockSet 0 1 2 200) State.reset).time.refState = .acquiring ∧
    (ran (.clockSet 0 1 2 200) State.reset).time.dayStart = 200 ∧
    (ran (.clockSet 0 1 2 1440) State.reset).time.dayStart = 180 := by decide

/-- R4: at 23:59:59.5 the next second event is that of midnight, half a second on. -/
theorem test_second_event_midnight :
    let t := ran .secondEvent (timed (86400000000 - 500000) State.reset)
    t.time.elapsed = 500000 ∧ t.time.station = 0 ∧ t.time.due = [] := by decide

/-- 4.8, "the carry at the day roll": 6140 and 6155 retire, 6168 is carried to -10 and 35. -/
theorem test_day_roll_carries :
    let delayed (n : Nat) (r : Service) : Service := { r with delay := .minutes n, effSm := r.schedSm + n }
    let t := ran .secondEvent (clock (fun t => { t with due := [hms 3 0 0] }) (timed (hms 3 0 0) (table
      [{ service 6140 1420 5 .departed with departedMs := some 10790000 }, delayed 3 (service 6155 1435 6 .closing),
        delayed 45 (service 6168 1430 0 .planned)] State.reset)))
    t.world.services.map (fun r => (r.code, r.schedSm, r.effSm, r.state)) = [(6168, -10, 35, .planned)] ∧
      t.world.tableSeq = 1 := by decide

theorem test_power_on_reset : ran .powerOnReset (timed (hms 18 0 0) (line 2 (fun m => { m with pin := true, state := .active })
    State.reset)) = line 2 (fun _ => Monitor.reset true) State.reset := by decide

/-! ## Lines (2.7 and 2.8) -/

/-- EL5 of 2.7. -/
def el5 (state : MonState) (rise gap : Option Nat) (pin : Bool) (s : State) : State :=
  line 4 (fun m => { m with
    role := .dispatch 7, state := state, rise := rise, gap := gap, pin := pin, lastEnd := some 1800000, lastHigh := 640
    lastLow := 41200, quietFrom := none }) s

/-- The engine at an elapsed time in milliseconds. -/
def elapsedMs (ms : Nat) (s : State) : State := clock (fun t => { t with elapsed := ms * 1000 }) s

/-- 2.7 at 5000: PENDING with `last_low` 3200. -/
theorem test_line_rising_edge :
    let t := ran (.lineRisingEdge 0 4) (elapsedMs 5000 (el5 .idle none none false State.reset))
    t.lines[(4 : LineNo)].state = .pending ∧ t.lines[(4 : LineNo)].lastLow = 3200 ∧
      t.lines[(4 : LineNo)].rise = some 5000000 := by decide

/-- 2.7 at 9060: a gap bridged after the qualification time makes the line ACTIVE, and the edge departs a service; the record
had been boarding at platform 7. -/
theorem test_line_bridged_edge_departs :
    let t := ran (.lineRisingEdge 0 4) (elapsedMs 9060 (el5 .pending (some 9000000) (some 9040000) false
      (table [service 3 940 7 .boarding] (timed (hms 18 30 0) State.reset))))
    t.lines[(4 : LineNo)].state = .active ∧ t.lines[(4 : LineNo)].gap = none ∧
      t.world.services.map (·.state) = [.departed] := by decide

/-- R25: a gap open over both t_q and `max_high`: the edge of 9050 is given first, STUCK ENTRY after it. -/
theorem test_line_bridged_stuck :
    let t := ran (.lineRisingEdge 0 4) (elapsedMs 19010 (line 4 (fun m => { m with gap := some 9040000 })
      (el5 .pending (some 9000000) (some 9040000) false State.reset)))
    t.lines[(4 : LineNo)].state = .suspended ∧
      t.link.tx = some (.report { number := 0, dropped := 0, report := .dispatchUnmatched 7 5 9050 0 }) ∧
      t.link.reports.map (·.report) = [.lineAlarm 5 .stuckEntry 19010 640 41200 0] := by decide

/-- 2.7 at 1800: a gap opens. -/
theorem test_line_falling_edge :
    (ran (.lineFallingEdge 0 4) (elapsedMs 1800 (el5 .active (some 1000000) none true State.reset))).lines[(4 : LineNo)].gap =
      some 1800000 := by decide

/-- 2.7 at 5080: H = 30 is a glitch, told with a suppressed count of 0. -/
theorem test_gap_confirmed_glitch :
    let t := ran (.gapConfirmed 4) (elapsedMs 5030 (el5 .pending (some 5000000) (some 5030000) false State.reset))
    t.lines[(4 : LineNo)].state = .idle ∧ t.lines[(4 : LineNo)].highShort = true ∧ t.lines[(4 : LineNo)].lastHigh = 30 ∧
      t.link.tx = some (.report { number := 0, dropped := 0, report := .lineAlarm 5 .highShort 5080 30 41200 0 }) := by decide

/-- 2.8 at 413,500: the suspension ends with `last_high` 65,535 and a STUCK EXIT alarm. -/
theorem test_gap_confirmed_suspended :
    let t := ran (.gapConfirmed 8) (elapsedMs 413000 (line 8 (fun m => { m with
      polarity := .activeLow, minHigh := 200, maxHigh := 20000, minLow := 500, state := .suspended
      rise := some 100000000, gap := some 413000000, pin := true }) State.reset))
    t.lines[(8 : LineNo)].state = .idle ∧ t.lines[(8 : LineNo)].lastHigh = 65535 ∧ t.time.elapsed = 413500000 ∧
      t.link.tx = some (.report { number := 0, dropped := 0, report := .lineAlarm 9 .stuckExit 413500 65535 0 0 }) := by decide

/-- 2.7 at 1050: ACTIVE; no service boards at platform 7, so the edge is unmatched. -/
theorem test_qualification_time :
    let t := ran (.qualificationTime 4) (elapsedMs 1040 (el5 .pending (some 1000000) none true State.reset))
    t.lines[(4 : LineNo)].state = .active ∧
      t.link.tx = some (.report { number := 0, dropped := 0, report := .dispatchUnmatched 7 5 1050 0 }) := by decide

/-- 2.8 at 120,000: SUSPENDED with STUCK set. -/
theorem test_max_high_passed :
    let t := ran (.maxHighPassed 8) (elapsedMs 119000 (line 8 (fun m => { m with
      polarity := .activeLow, minHigh := 200, maxHigh := 20000, minLow := 500, state := .active, rise := some 100000000
      pin := false }) State.reset))
    t.lines[(8 : LineNo)].state = .suspended ∧ t.lines[(8 : LineNo)].stuck = true ∧ t.time.elapsed = 120000000 := by decide

/-- R21: REARM ends in IDLE `min_low` after power-on. -/
theorem test_line_rearmed : (ran (.lineRearmed 0) State.reset).lines[(0 : LineNo)].state = .idle ∧
    (ran (.lineRearmed 0) State.reset).time.elapsed = 50000 := by decide

/-- R30: 5 ms is taken as 10 and 70,000 as 60,000, with ADJUSTED. -/
theorem test_line_set :
    let t := ran (.lineSet 0 1 (.event 5 0 5 70000 50 2 7)) State.reset
    t.lines[(4 : LineNo)].minHigh = 10 ∧ t.lines[(4 : LineNo)].maxHigh = 60000 ∧ t.lines[(4 : LineNo)].role = .dispatch 7 ∧
      t.link.slot = some { kind := 0x84, tag := 1, status := .ok, adjusted := true, body := .empty } := by decide

/-- 2.8 at 300,000: STUCK is cleared, the line stays suspended. -/
theorem test_line_clear :
    let t := ran (.lineClear 0 1 256) (line 8 (fun m => { m with state := .suspended, stuck := true }) State.reset)
    t.lines[(8 : LineNo)].stuck = false ∧ t.lines[(8 : LineNo)].state = .suspended := by decide

/-! ## Services, texts and notices -/

/-- 18:03:30 with text 1 (3.5, "a put into a full table"). -/
def peak (l : List Service) : State := timed (hms 18 3 30) (table l (texts [text 1 0] State.reset))

/-- 3.5: 5220 at 18:30 has `sched_sm` 930 and text 1 is used once; a put at 17:30 is refused PAST. -/
theorem test_service_put :
    let t := ran (.servicePut 0 1 plainPut) (peak [])
    t.world.services.map (fun r => (r.code, r.schedSm, r.rev)) = [(5220, 930, 1)] ∧ t.world.texts.map (·.uses) = [1] ∧
      t.link.slot = some { kind := 0x86, tag := 1, status := .ok, adjusted := false, body := .servicePut 1 true } ∧
      (ran (.servicePut 0 1 { plainPut with code := 5188, schedHm := 1050 }) (peak [])).link.slot =
        some { kind := 0x86, tag := 1, status := .past, adjusted := false, body := .empty } := by decide

/-- 3.5, "a platform moved twice": 9 to 11 at 18:21:05; with a display time of 0 the change is still shown (R64). -/
theorem test_service_amend_platform :
    let s := timed (hms 18 21 5) (table [service 5231 925 9 .boarding] (texts [text 1 1] State.reset))
    let t := ran (.serviceAmend 0 1 { noAmend with code := 5231, platform := some (11, 0) }) s
    let brief := world (fun w => { w with policy := { w.policy with changeDisplay := 0 } }) s
    t.world.services.map (fun r => (r.platform, r.prev, r.changeMs, r.attention)) =
      [(11, some (9, .none), some 66065000, true)] ∧ t.world.services.map (·.state) = [.boarding] ∧
      (ran (.serviceAmend 0 1 { noAmend with code := 5231, platform := some (11, 0) }) brief).world.services.map
        (·.attention) = [true] := by decide

/-- 3.5, "a platform moved twice": unassigned at 18:24:10, PLANNED with `attention` clear. -/
theorem test_service_amend_unassigns :
    let t := ran (.serviceAmend 0 1 { noAmend with code := 5231, platform := some (0, 0) }) (timed (hms 18 24 10) (table
      [{ service 5231 925 9 .boarding with prev := some (11, .none), changeMs := some 66220000, attention := true }]
      (texts [text 1 1] State.reset)))
    t.world.services.map (fun r => (r.platform, r.prev, r.changeMs, r.attention)) =
      [(0, some (11, .none), some 66220000, false)] ∧ t.world.services.map (·.state) = [.planned] := by decide

/-- R49: dropped, its text used once less. -/
theorem test_service_drop :
    let t := ran (.serviceDrop 0 1 7) (table [service 7 930 9 .cancelled] (texts [text 1 1] State.reset))
    t.world.services = [] ∧ t.world.texts.map (·.uses) = [0] ∧ t.link.reports.length = 1 := by decide

/-- 4.7, "a countdown across midnight": the outcome of the evaluation at each of the times shown. -/
theorem test_evaluation_across_midnight :
    let r : Service := { service 6012 1265 14 .planned with delay := .minutes 4, effSm := 1269 }
    let e (us : Nat) := (timed us State.reset).env
    let after (state : SvcState) (us : Nat) :=
      let x := (({ r with state := state } : Service).evaluate Lifecycle.reset (e us)).1
      (x.state, x.overdue)
    (e (hms 23 57 20)).timeTo 1269 = 700000 ∧ after .planned (hms 23 57 20) = (.planned, false) ∧
      after .planned (hms 23 59 0) = (.boarding, false) ∧ after .boarding 0 = (.boarding, false) ∧
      after .boarding (hms 0 8 0) = (.closing, false) ∧ after .closing (hms 0 9 0) = (.closing, false) ∧
      after .closing (hms 0 10 0) = (.closing, true) := by decide

/-- 4.7: a record that departed at 00:10:25 retires at 00:12:25. -/
theorem test_evaluation_departed_hold :
    let r : Service := { service 6012 1269 14 .departed with departedMs := some 625000 }
    (r.evaluate Lifecycle.reset (timed (hms 0 12 24) State.reset).env).2 = none ∧
      (r.evaluate Lifecycle.reset (timed (hms 0 12 25) State.reset).env).2 = some .departed := by decide

/-- R54: nine characters take two cells. -/
theorem test_text_put :
    let t := ran (.textPut 0 1 255 (List.replicate 9 0x41)) State.reset
    t.world.freeCells = 1534 ∧ t.world.texts.map (fun x => (x.index, x.cells, x.uses, x.rev)) = [(255, 2, 0, 1)] := by decide

/-- R56: a text in use is refused with its use count. -/
theorem test_text_drop : (ran (.textDrop 0 1 1) (texts [text 1 3] State.reset)).link.slot =
      some { kind := 0x8A, tag := 1, status := .inUse, adjusted := false, body := .useCount 3 } ∧
    (ran (.textDrop 0 1 1) (texts [text 1 0] State.reset)).world.freeCells = 1536 := by decide

/-- R59: values outside their ranges go to the nearer end. -/
theorem test_lifecycle_set :
    let t := ran (.lifecycleSet 0 1 { plainPolicy with boardLead := 0, abandon := 255 }) State.reset
    t.world.policy.boardLead = 1 ∧ t.world.policy.abandon = 240 ∧ t.link.slot.map (·.adjusted) = some true := by decide

/-- 4.9, "a notice across the roll": the end at 04:30 put at 23:40 lies at 91,800,000. -/
theorem test_notice_put :
    let s := timed (hms 23 40 0) (texts [text 88 0] State.reset)
    let r := { plainNotice with text := 88, scope := .platforms 0x60000000, endMs := some 16200000, period := 15 }
    (ran (.noticePut 0 1 r) s).world.notices.map (fun n => (n.endOff, n.active, n.rev)) = [(some 91800000, true, 1)] ∧
      (ran (.noticePut 0 1 { r with startMs := some 84600000, endMs := some 84900000 }) s).link.slot.map (·.status) =
        some .past := by decide

theorem test_notice_drop :
    let t := ran (.noticeDrop 0 1 21) (world (fun w => { w with notices := [notice 9, notice 21] }) (texts [text 1 2] State.reset))
    t.world.notices.map (·.id) = [9] ∧ t.world.texts.map (·.uses) = [1] := by decide

/-! ## Views and the wall -/

/-- R79, R85: a CLOCK window shows "18:03" in its row. -/
theorem test_view_set :
    let off := { plainWindow with enabled := false }
    let t := ran (.viewSet 0 1 1 plainWindow off off off) (enabled 0 (timed (hms 18 3 30) State.reset))
    (t.world.view 0).targets = [.clock (chars [0x31, 0x38, 0x3A, 0x30, 0x33]), .empty, .empty, .empty] := by decide

/-- 5.8: the rows of a PLATFORM window at 18:20:10: DUE_IN 4, EXPECTED 18:37, PLATFORM_CHANGED from "9". -/
theorem test_rows_of_a_platform_edge :
    let e := (timed (hms 18 20 10) State.reset).env
    let expected : Service := { service 5312 931 14 .planned with delay := .minutes 6, effSm := 937 }
    let moved : Service := { service 5320 940 14 .planned with attention := true, prev := some (9, .none) }
    rowStatus e 15 true (service 5300 924 14 .boarding) = .dueIn 4 ∧
      rowStatus e 15 true expected = .expected (chars [0x31, 0x38, 0x3A, 0x33, 0x37]) ∧
      rowStatus e 15 true moved = .platformChanged [0x39] := by decide

/-- R93. -/
theorem test_compose_set : (ran (.composeSet 0 1 61) State.reset).world.dueHorizon = 60 := by decide

/-- R88: the page turns from the last to the first; here a TICKER of two notices. -/
theorem test_page_expiry :
    let s := world (fun w => { w.setView 0 { w.view 0 with
        windows := (w.view 0).windows.set 1 { Window.reset with
          enabled := true, source := .ticker 1, period := 10, pageIndex := 1, pageTimer := some 10000000 } } with
      notices := [notice 7, notice 9] }) (enabled 0 State.reset)
    let x := ((ran (.pageExpiry 0 1) s).world.view 0).windows[(1 : Fin 4)]
    x.pageIndex = 0 ∧ x.pageTimer = some 20000000 := by decide

/-- 6.10 at 0: BATCH_OPEN sets the limit ten seconds on. -/
theorem test_batch_open :
    let t := ran (.batchOpen 0 1) State.reset
    t.world.commit.batchOpen = true ∧ t.world.commit.batchTimer = some 10000000 := by decide

/-- 6.10 at 310: BATCH_CLOSE of a held commit enters STAGING with commit_seq 8,202 and the deadline 1,500 ms on. -/
theorem test_batch_close :
    let s := elapsedMs 310 (wall 0 (fun x => { x with restage := true }) (lit 0 (commit (fun c => { c with
      state := .settling, batchOpen := true, batchTimer := some 10000000, wallSeq := 8200 })
        (world (fun w => { w with tableSeq := 8202 }) State.reset))))
    let t := ran (.batchClose 0 1) s
    t.world.commit.state = .staging ∧ t.world.commit.commitSeq = 8202 ∧ t.world.commit.deadlineTimer = some 1810000 ∧
      (t.world.wall 0).part = .staging ∧ (t.world.channel 0).queue.length = 4 := by decide

/-- R103: the limit closes the batch. -/
theorem test_batch_expired :
    let t := ran .batchExpired (commit (fun c => { c with batchOpen := true, batchTimer := some 10000000 }) State.reset)
    t.world.commit.batchOpen = false ∧
      t.link.tx = some (.report { number := 0, dropped := 0, report := .batchExpired 10000 0 }) := by decide

/-- 6.10 at 240: a settle timer that expires in an open batch stages nothing. -/
theorem test_settle_expiry_held :
    let t := ran .settleExpiry (commit (fun c => { c with
      state := .settling, settleTimer := some 240000, batchOpen := true }) State.reset)
    t.world.commit.state = .settling ∧ t.world.commit.settleTimer = none := by decide

/-- R109: at the deadline the string that is still STAGING fails, and its blank pulse begins. -/
theorem test_staging_deadline_expiry :
    let t := ran .stagingDeadlineExpiry (world (fun w => w.setLatch 0 { pulses := [], ends := none }) (staging 0 1 State.reset))
    (t.world.wall 0).part = .failed ∧ (t.world.wall 0).cause = some .deadline ∧ t.world.commit.state = .latchB ∧
      t.world.latch 0 = { pulses := [{ kind := .blank, ofCommit := true }], ends := some 1510000 } := by decide

/-- 6.10 at 389: the latch pulse of group B begins and ends a millisecond later. -/
theorem test_stagger_expiry :
    let s := commit (fun c => { c with state := .latchA, staggerTimer := some 389000 })
      (channel 4 (fun c => { c with settings := { c.settings with group := .b } })
        (wall 4 (fun x => { x with part := .staged, staged := [stagedRow 0 true] })
          (world (fun w => w.setLatch 4 { pulses := [], ends := none }) (lit 4 State.reset))))
    let t := ran .staggerExpiry s
    t.world.commit.state = .latchB ∧
      t.world.latch 4 = { pulses := [{ kind := .latch, ofCommit := true }], ends := some 390000 } := by decide

/-- 6.10 at 390: completion: generation 17,045, wall_seq 8,202, the staged row shown, QUIET. -/
theorem test_pulse_end_completes :
    let pulsing (w : World) : World := { w with
      latches := Vector.ofFn fun n => if n = 4 then { pulses := [{ kind := .latch, ofCommit := true }], ends := some 390000 }
        else { pulses := [], ends := none }
      tableSeq := 8202 }
    let target (w : World) : World :=
      w.setView 4 { w.view 4 with targets := [.clock (chars [0x31]), .empty, .empty, .empty] }
    let s := commit (fun c => { c with state := .latchB, generation := 17044, commitSeq := 8202, wallSeq := 8200 })
      (wall 4 (fun x => { x with part := .staged, staged := [stagedRow 0 true] })
        (world (fun w => pulsing (target w)) (lit 4 State.reset)))
    let t := ran (.pulseEnd 4) s
    t.world.commit.generation = 17045 ∧ t.world.commit.wallSeq = 8202 ∧ t.world.commit.state = .quiet ∧
      (t.world.wall 4).shown = [.clock (chars [0x31]), .empty, .empty, .empty] ∧ (t.world.wall 4).part = .none := by decide

/-- R117: 249 ms is taken down to 200, a deadline of 450 up to 500. -/
theorem test_commit_set :
    let t := ran (.commitSet 0 1 { plainCommit with settle := 249, deadline := 450, refresh := 0 }) State.reset
    t.world.commit.settings.settle = 200 ∧ t.world.commit.settings.deadline = 500 ∧ t.world.commit.sweepTimer = none ∧
      t.link.slot.map (·.adjusted) = some true := by decide

/-- R115: the sweep passes string 16 and goes on with the first lit string. -/
theorem test_sweep_expiry :
    let t := ran .sweepExpiry (commit (fun c => { c with sweepPos := some 15 }) (lit 3 State.reset))
    t.world.commit.sweepTimer = some 8000000 ∧ t.world.commit.sweepPos = some 3 ∧ (t.world.wall 3).restage = true := by decide

/-! ## The string links -/

/-- R122: the byte times of its table, in quarters of a microsecond. -/
theorem test_byte_times :
    let q (i f : Nat) := ({ StringSettings.reset with divI := i, divF := f } : StringSettings).byteTimes 4
    q 4 0 = 32 ∧ q 41 5 = 333 ∧ q 260 3 = 2083 ∧ q 2047 7 = 16383 := by decide

/-- R120, R121: string 11 enabled, DARK with its twelve rows EMPTY, its first poll two seconds on. -/
theorem test_string_set :
    let t := ran (.stringSet 0 1 plainString) State.reset
    (t.world.channel 10).state = .ready ∧ (t.world.channel 10).pollTimer = some 2000000 ∧ t.world.rowTotal 10 = 12 ∧
      (t.world.wall 10).shown.length = 12 ∧ (t.world.wall 10).lit = .dark := by decide

/-- R136: its wait ends after eighteen byte times of 520.75 µs (R122); refused while one is in progress. -/
theorem test_link_test : (ran (.linkTest 0 1 1) State.reset).world.channels[0].test = some running ∧
    (ran (.linkTest 0 1 1) (channel 0 (fun c => { c with test := some running }) State.reset)).link.slot.map (·.status) =
      some .wrongState := by decide

/-- R136 and the pattern of 11.5: sixteen equal characters match, a wrong third one gives 2, and fifteen are a MISMATCH at the
end of the wait. -/
theorem test_link_test_result :
    let s := channel 0 (fun c => { c with test := some running }) State.reset
    let good : List Byte := [0x00, 0xFF, 0x55, 0xAA, 0x01, 0x02, 0x04, 0x08, 0x10, 0x20, 0x40, 0x80, 0xFE, 0xFD, 0x33, 0xCC]
    let told (result : TestResult) (n : Nat) : TxFrame :=
      .report { number := 0, dropped := 0, report := .linkTestResult 1 result n }
    let short := ran (.linkTestResult 0 0 (received (good.take 15))) s
    (ran (.linkTestResult 0 0 (received good)) s).link.tx = some (told .same 16) ∧
      (ran (.linkTestResult 0 0 (received (good.set 2 0x54))) s).link.tx = some (told .mismatch 2) ∧
      short.link.tx = none ∧ (ran (.linkTestResult 9400 0 []) short).link.tx = some (told .mismatch 15) ∧
      (ran (.linkTestResult 9400 0 []) short).time.elapsed = 9374 ∧
      (ran (.linkTestResult 9373 0 []) short).link.tx = none := by decide

/-- 7.9 at 0: a POLL to module 1, the pointer on module 2. -/
theorem test_poll_tick :
    let t := ran (.pollTick 2) (channel 2 (fun c => { c with pollTimer := some 2000000 }) (enabled 2 State.reset))
    (t.world.channel 2).queue = [{ frame := .poll 1, attempts := 0 }] ∧ (t.world.channel 2).pollPtr = 2 ∧
      (t.world.channel 2).pollTimer = some 4000000 := by decide

/-- R124, R125: a tick during an exchange finds its frame in the queue and is passed over. -/
theorem test_poll_tick_during_an_exchange :
    let c := ran (.pollTick 2) (channel 2 (fun c => { waitingOn (awaiting (.poll 2) 1) c with pollTimer := some 2000000 })
      (enabled 2 State.reset))
    (c.world.channel 2).queue = [{ frame := .poll 2, attempts := 1 }] ∧ (c.world.channel 2).pollPtr = 1 := by decide

/-- R124: staged frames go ahead of a POLL that waits, and behind one whose exchange is not over. -/
theorem test_stages_join :
    let c (attempts : Nat) : Channel := { Channel.reset false with queue := [{ frame := .poll 1, attempts := attempts }] }
    ((c 0).queueStages [stagedRow 0 false]).queue.map (·.frame.isStage) = [true, false] ∧
      ((c 1).queueStages [stagedRow 0 false]).queue.map (·.frame.isStage) = [false, true] := by decide

/-- 7.9: a POLL of six bytes takes about 3 ms at I 260, F 3. -/
theorem test_frame_begin :
    let t := ran (.frameBegin 2) (channel 2 (fun c => { c with queue := [{ frame := .poll 2, attempts := 0 }] })
      (enabled 2 State.reset))
    (t.world.channel 2).state = .sending ∧ ((t.world.channel 2).exchange.bind (·.sendEnds)) = some 3125 := by decide

/-- 7.10: a frame that finds BSY asserted is held for a second. -/
theorem test_frame_begin_held :
    let t := ran (.frameBegin 10) (elapsedMs 121 (channel 10 (fun c => { c with
      queue := [{ frame := .poll 1, attempts := 0 }], busy := true, settings := { c.settings with flow := .busyLine } })
        (enabled 10 State.reset)))
    (t.world.channel 10).state = .held ∧ (t.world.channel 10).holdTimer = some 1121000 := by decide

/-- 7.9 at 2,003: WAITING with the reply timer at 2,023. -/
theorem test_frame_sent :
    let t := ran (.frameSent 2) (channel 2 (fun c => { c with
      state := .sending
      exchange := some { frame := .poll 2, attempt := 1, orphan := false, sendEnds := some 2003000, replyTimer := none
                         reply := [] } })
        (enabled 2 State.reset))
    (t.world.channel 2).state = .waiting ∧ ((t.world.channel 2).exchange.bind (·.replyTimer)) = some 2023000 := by decide

/-- 7.9 at 2,046: the second attempt fails, module 2 is SUSPECT with one exchange missed, and MODULE_STATE tells it. -/
theorem test_reply_timeout :
    let t := ran (.replyTimeout 2)
      (channel 2 (waitingOn { awaiting (.poll 2) 2 with replyTimer := some 2046000 }) (enabled 2 State.reset))
    (t.world.channel 2).state = .ready ∧ (t.world.channel 2).queue = [] ∧ (t.world.channel 2).timedOut = 1 ∧
      ((t.world.channel 2).moduleRec 2).health = .suspect ∧
      t.link.tx = some (.report { number := 0, dropped := 0, report := .moduleState 3 2 .suspect 1 noFlags 2046 }) := by decide

/-- 7.9: the third missed exchange makes the module LOST. The gap is found behind 1,041.5 µs (R122, R127). -/
theorem test_reply_gap :
    let t := ran (.replyGap 1142 2) (channel 2 (fun c => { (waitingOn { awaiting (.poll 2) 2 with reply := [2] } c).updateModule 2 fun m =>
        { m with health := .suspect, missed := 2 } with lastChar := some 100 }) (enabled 2 State.reset))
    ((t.world.channel 2).moduleRec 2).health = .lost ∧ (t.world.channel 2).voids = 1 ∧ t.time.elapsed = 1142 := by decide

/-- R127: the first character stops the reply timer; a wrong module address makes the reply void, and the first attempt is made
again, the frame still at the head of the queue (R128). -/
theorem test_void_reply :
    let s := channel 2 (waitingOn (awaiting (.poll 2) 1)) (enabled 2 State.reset)
    let t := ran (.voidReply { dt := 0, chars := received [3] } 2) s
    (t.world.channel 2).queue = [{ frame := .poll 2, attempts := 1 }] ∧ (t.world.channel 2).voids = 1 ∧
      (ran (.replyTimeout 2) (ran (.voidReply { dt := 9, chars := received [2] } 2) s)).time.elapsed = 9 := by decide

/-- R127: a STATUS byte by byte (its check worked out apart) is good; with a wrong check, or with its stop bit missing in the
last byte, it is void. -/
theorem test_reply_characters :
    let s := channel 2 (waitingOn (awaiting (.poll 2) 1)) (enabled 2 State.reset)
    let frame : List Byte := [0x02, 0x82, 0x01, 0x00, 0x02, 0xD6, 0x4B]
    ((ran (.voidReply { dt := 5, chars := received frame } 2) s).world.channel 2).moduleRec 2 =
        { health := .ok, missed := 0, flags := { noFlags with lampFault := true }, reject := false } ∧
      ((ran (.voidReply { dt := 5, chars := received frame } 2) s).world.channel 2).queue = [] ∧
      ((ran (.voidReply { dt := 5, chars := received (frame.set 6 0) } 2) s).world.channel 2).voids = 1 ∧
      ((ran (.voidReply { dt := 5, chars := received (frame.take 6) ++ [{ byte := 0x4B, framed := false }] } 2) s).world.channel 2).voids = 1 := by
  decide

/-- R108: the last acknowledgement makes the string STAGED and, no other taking part, begins its latch pulse. -/
theorem test_ack_stage :
    let s := world (fun w => w.setLatch 0 { pulses := [], ends := none }) (staging 0 1 State.reset)
    let t := ran (.ackStage 349000 0 1 1 1 false) s
    (t.world.wall 0).part = .staged ∧
      t.world.latch 0 = { pulses := [{ kind := .latch, ofCommit := true }], ends := some 350000 } ∧
      (ran (.ackStage 0 0 1 1 1 true) s).world.walls[0].cause = some .rejected := by decide

/-- 7.9 at 32,000: the module is OK again with CONTENT_LOST, and restage-all is set. -/
theorem test_status :
    let s := channel 2 (fun c => (waitingOn (awaiting (.poll 2) 1) c).updateModule 2 fun m =>
        { m with health := .lost, missed := 3 }) (lit 2 State.reset)
    let t := ran (.status 32000000 2 2 { noFlags with contentLost := true }) s
    let told : Report := .moduleState 3 2 .ok 0 { noFlags with contentLost := true } 32000
    ((t.world.channel 2).moduleRec 2).health = .ok ∧ (t.world.wall 2).restage = true ∧
      t.link.tx = some (.report { number := 0, dropped := 0, report := told }) := by decide

/-- R133: the codes act in PAUSE_CODES only. -/
theorem test_pause_and_resume_codes :
    let s (flow : FlowMode) := channel 0 (fun c => { c with settings := { c.settings with flow := flow } }) (enabled 0 State.reset)
    ((ran (.pauseCode 0 0) (s .pauseCodes)).world.channel 0).flowStopped = true ∧
      ((ran (.pauseCode 0 0) (s .busyLine)).world.channel 0).flowStopped = false ∧
      ((ran (.resumeCode 0 0) (ran (.pauseCode 0 0) (s .pauseCodes))).world.channel 0).flowStopped = false := by decide

/-- R133: the release of BSY lets the head frame begin at once, but not during a link test, which keeps the hold timer (R136). -/
theorem test_busy_return :
    let s := channel 0 (fun c => { c with
      state := .held, holdTimer := some 1000000, busy := true, queue := [{ frame := .poll 1, attempts := 0 }]
      settings := { c.settings with flow := .busyLine } }) (enabled 0 State.reset)
    let tested := channel 0 (fun c => { c with test := some running }) s
    ((ran (.busyReturn 7 0 false) s).world.channel 0).state = .sending ∧
      ((ran (.busyReturn 7 0 true) s).world.channel 0).state = .held ∧
      (ran (.busyReturn 7 0 false) tested).world.channel 0 = { tested.world.channel 0 with busy := false } := by decide

/-- 7.10 at 1,121: FAULTED to 6,121, the string FAILED, STRING_STATE STALLED. -/
theorem test_stalled :
    let t := ran (.stalled 10) (channel 10 (fun c => { c with
      state := .held, holdTimer := some 1121000, exchange := none, queue := [{ frame := .poll 1, attempts := 0 }] })
        (wall 10 (fun x => { x with lit := .lit }) (staging 10 1 State.reset)))
    (t.world.channel 10).state = .faulted ∧ (t.world.channel 10).faultTimer = some 6121000 ∧
      (t.world.channel 10).queue = [] ∧ (t.world.wall 10).cause = some .faulted ∧
      t.link.tx = some (.report { number := 0, dropped := 0, report := .stringState 11 .lit .stalled 0 }) := by decide

/-- 7.10 at 6,121: READY with a POLL at its head. -/
theorem test_recovered :
    let t := ran (.recovered 10) (channel 10 (fun c => { c with state := .faulted, faultTimer := some 6121000 })
      (enabled 10 State.reset))
    (t.world.channel 10).state = .ready ∧ (t.world.channel 10).queue = [{ frame := .poll 1, attempts := 0 }] ∧
      t.link.tx = some (.report { number := 0, dropped := 0, report := .stringState 11 .dark .recovered 0 }) := by decide

/-! ## Cues and the announcement link -/

/-- R145: kind 1 is DELAY; a threshold of 0 is taken as 1. -/
theorem test_policy_set :
    let t := ran (.policySet 0 1 { plainKind 1 with enable := true, priority := 3, b := 5, c := 10, d := 2 }) State.reset
    t.world.cuePolicy.delay = { enable := true, priority := 3 } ∧ t.world.cuePolicy.delayThreshold = 1 ∧
      t.world.cuePolicy.delayRepeats = 2 := by decide

theorem test_zone_map_set :
    let t := ran (.zoneMapSet 0 1 (List.replicate 48 4) 2) State.reset
    t.world.zoneMap = List.replicate 48 4 ∧ t.world.concourse = 2 := by decide

/-- R154: a cue on a text that the wall has caught up with goes straight to a free channel. -/
theorem test_cue_put :
    let t := ran (.cuePut 0 1 { plainCue 0 with kind := 6, subject := 1 }) (texts [text 1 0] State.reset)
    t.world.cues.map (fun c => (c.handle, c.slot, c.state)) = [(1, 0, .starting)] ∧
      t.world.au.channels[0].phase = .starting ∧ t.world.au.made = [.start 1 0 1 .custom (.text [0x41])] ∧
      t.link.slot = some { kind := 0x9A, tag := 1, status := .ok, adjusted := false, body := .handle 1 } := by decide

/-- 9.7 at 600,000: a playing cue is stopped, its stop wait two seconds on. -/
theorem test_cue_cancel :
    let s := play 1 .playing (cue 501 1 0 .playing) (some 700000000) (cues [cue 501 1 0 .playing] State.reset)
    let t := ran (.cueCancel 600000000 1 501) s
    t.world.cues = [] ∧ t.world.au.channels[1].phase = .stopping ∧ t.world.au.channels[1].timer = some 602000000 ∧
      t.world.au.made = [.stop 501] := by decide

/-- 8.9: at 1,100,000 cue 412 falls due; table_seq is ahead of wall_seq, so it waits for the wall. -/
theorem test_cue_period_expiry :
    let c : Cue := { cue 412 0 2 .armed with
      mode := .periodic, periodS := some 600, repeatsLeft := some 0, timer := some 1100000000 }
    let t := ran (.cuePeriodExpiry 0) (world (fun w => { w with tableSeq := 9140 }) (cues [c] (texts [text 1 0] State.reset)))
    t.world.cues.map (fun c => (c.state, c.seq, c.timer)) = [(.pendingWall, 9140, none)] := by decide

/-- R141: a triggered cue whose delay is over waits for the wall. -/
theorem test_cue_delay_expiry :
    let c : Cue := { cue 1 0 2 .delaying with mode := .triggered, timer := some 3000000 }
    (ran (.cueDelayExpiry 0) (world (fun w => { w with tableSeq := 1 }) (cues [c] (texts [text 1 0] State.reset)))).world.cues.map
      (·.state) = [.pendingWall] := by decide

/-- R159: a cue of priority 3 competes as 2 after one minute and as 1 after two. -/
theorem test_effective_priority :
    let c : Cue := { cue 1 0 3 .queued with queuedAt := some 5000000 }
    c.effective 64999999 = 3 ∧ c.effective 65000000 = 2 ∧ c.effective 125000000 = 1 ∧ c.effective 999000000 = 1 := by decide

/-- R159: each change of an effective priority runs the arbiter, at its own moment where another command has run on to it. -/
theorem test_cue_aging :
    let c : Cue := { cue 1 0 3 .queued with queuedAt := some 5000000 }
    let t := ran (.cueAging 0) (cues [c] (texts [text 1 0] State.reset))
    let kept := ran (.cueAging 0) (unit (fun a => { a with available := false }) (cues [c] (elapsedMs 65000 State.reset)))
    t.time.elapsed = 65000000 ∧ t.world.cues.map (·.state) = [.starting] ∧ kept.time.elapsed = 65000000 ∧
      (ran (.cueAging 0) kept).time.elapsed = 125000000 := by decide

/-- Cue 507 on channel 1. -/
def cue507 (phase : Phase) (timer : Option Nat) (s : State) : State :=
  play 0 phase (cue 507 0 0 (if phase = .starting then .starting else .playing)) timer
    (cues [cue 507 0 0 (if phase = .starting then .starting else .playing)] s)

/-- 9.7 at 600,900: the start timer runs to 602,900. -/
theorem test_start_sent : (ran (.startSent 600900000 0) (cue507 .starting none State.reset)).world.au.channels[0].timer =
    some 602900000 := by decide

/-- 9.7 at 601,150: PLAYING, the play limit at 721,150. -/
theorem test_playing :
    let t := ran (.playing 601150000 507) (cue507 .starting (some 602900000) State.reset)
    t.world.au.channels[0].phase = .playing ∧ t.world.au.channels[0].timer = some 721150000 ∧
      t.link.tx = some (.report { number := 0, dropped := 0, report := .cueState 507 (.started 0) .host .custom 1 601150 }) := by
  decide

/-- 9.7 at 628,400: the channel is FREE and 507 leaves the table. -/
theorem test_done :
    let t := ran (.done 628400000 507) (cue507 .playing (some 721150000) State.reset)
    t.world.au.channels[0].phase = .free ∧ t.world.cues = [] := by decide

/-- R162: a refused start frees the channel. -/
theorem test_refused :
    let t := ran (.refused 0 507 1) (cue507 .starting (some 602900000) State.reset)
    t.world.au.channels[0].phase = .free ∧ t.world.cues = [] ∧ t.world.au.timeouts = 0 := by decide

/-- R168: the third start timeout in a row makes the link UNAVAILABLE, a STATUS due five seconds on. -/
theorem test_start_timeout :
    let t := ran (.startTimeout 0) (unit (fun a => { a with timeouts := 2 }) (cue507 .starting (some 602900000) State.reset))
    t.world.au.available = false ∧ t.world.au.timeouts = 3 ∧ t.world.au.statusTimer = some 607900000 := by decide

/-- R163: the play limit asks for a stop. -/
theorem test_play_limit_expiry :
    let t := ran (.playLimitExpiry 0) (cue507 .playing (some 721150000) State.reset)
    t.world.au.channels[0].phase = .stopping ∧ t.world.au.channels[0].timer = some 723150000 ∧ t.world.cues = [] := by decide

/-- 9.7 at 600,450 and, had the unit not answered, at 602,000: the channel is FREE. -/
theorem test_stopped : (ran (.stopped 0 507) (cue507 .stopping (some 602000000) State.reset)).world.au.channels[0].phase = .free ∧
    (ran (.stopWaitExpiry 0) (cue507 .stopping (some 602000000) State.reset)).world.au.channels[0].phase = .free ∧
    (ran (.stopped 0 506) (cue507 .stopping (some 602000000) State.reset)).world.au.stray = 1 := by decide

/-- R168: a status reply makes the link AVAILABLE again; while UNAVAILABLE a STATUS goes every five seconds. -/
theorem test_status_reply_and_timer :
    let s := unit (fun a => { a with available := false, statusTimer := some 5000000 }) State.reset
    (ran (.statusReply 0 1) s).world.au.available = true ∧ (ran (.statusReply 0 1) s).world.au.unitStatus = some 1 ∧
      (ran .statusTimerExpiry s).world.au.statusTimer = some 10000000 ∧ (ran .statusTimerExpiry s).world.au.made = [.status] := by
  decide

/-- R161: a gap of more than four byte times, 347.2 µs, loses a frame that has begun; in HUNT there is none. -/
theorem test_au_gap :
    let t := ran (.auGap 348) (unit (fun a => { a with rx := .header [0x83], rxAt := some 0 }) State.reset)
    t.world.au.discarded = 1 ∧ t.time.elapsed = 348 ∧ (ran (.auGap 348) State.reset).world.au.discarded = 0 := by decide

/-- R161: DONE of 507 byte by byte (its check worked out apart); with a wrong check, an unknown kind or a short body it is
discarded, and a good one is handled. -/
theorem test_au_frame_discarded :
    let rx (l : List Nat) : List RxChar := l.map fun b => { byte := BitVec.ofNat 8 b, framed := true }
    let s := cue507 .playing (some 721150000) State.reset
    let after (l : List Nat) := (ran (.auFrameDiscarded { dt := 0, chars := rx l }) s).world
    (after [0xA5, 0x83, 0x00, 0x02, 0x00, 0xFB, 0x01, 0xF0, 0xB1]).cues = [] ∧
      (after [0xA5, 0x83, 0x00, 0x02, 0x00, 0xFB, 0x01, 0xF0, 0xB0]).au.discarded = 1 ∧
      (after [0xA5, 0x86, 0x00, 0x00, 0x00, 0xD5, 0x65]).au.discarded = 1 ∧
      (after [0xA5, 0x83, 0x00, 0x01, 0x00, 0x01, 0x44, 0xEC]).au.discarded = 1 := by decide

/-- R169. -/
theorem test_au_set :
    let t := ran (.auSet 0 1 2050 5 20000) State.reset
    (t.world.au.startTimeout, t.world.au.playLimit, t.world.au.stopWait) = (2000, 10, 10000) := by decide

/-! ## Slave clock lines (10.6 and 10.7) -/

/-- Line 1 of 10.6 at dial 280, the time 18:10:20.3. -/
def concourseClocks (f : DialLine → DialLine) : State :=
  dial 0 (fun x => f { x with dial := 280, next := .minus }) (timed (hms 18 10 20 + 300000) State.reset)

/-- 10.6 at 0: enabling evaluates: d = 90, CATCHING_UP, the first pulse to 500 ms. -/
theorem test_dial_line_set :
    let x := (ran (.dialLineSet 0 1 1 true 500) (concourseClocks id)).dials[(0 : Fin 4)]
    x.distance = 90 ∧ x.state = .catchingUp ∧ x.drive = .driving ∧ x.timer = some 500000 := by decide

/-- 10.6: DIAL_SET 280, - on a stopped line. -/
theorem test_dial_set :
    let x := (ran (.dialSet 0 1 1 280 1) State.reset).dials[(0 : Fin 4)]
    x.dial = 280 ∧ x.next = .minus ∧ x.state = .stopped := by decide

/-- 10.6 at 500: dial 281, next +, d = 89, resting to 1,000. -/
theorem test_dial_pulse_end :
    let x := (ran (.dialPulseEnd 0) (concourseClocks fun x => { x with
      enabled := true, drive := .driving, timer := some 500000, state := .catchingUp })).dials[(0 : Fin 4)]
    x.dial = 281 ∧ x.next = .plus ∧ x.distance = 89 ∧ x.drive = .resting ∧ x.timer = some 1000000 := by decide

/-- 10.7: the pulse that ends at 02:00:00.500 leaves dial 180, next -, HOLDING at 660. -/
theorem test_dial_pulse_end_holding :
    let x := (ran (.dialPulseEnd 1) (dial 1 (fun x => { x with
      enabled := true, dial := 179, drive := .driving, timer := some 300000, state := .pulsing })
        (timed (hms 2 0 0 + 200000) State.reset))).dials[(1 : Fin 4)]
    x.dial = 180 ∧ x.next = .minus ∧ x.distance = 660 ∧ x.state = .holding := by decide

/-- 10.6 at 1,000: the rest ends and pulse 2 begins. -/
theorem test_dial_rest_end :
    let x := (ran (.dialRestEnd 0) (concourseClocks fun x => { x with
      enabled := true, dial := 281, next := .plus, drive := .resting, timer := some 1000000 })).dials[(0 : Fin 4)]
    x.drive = .driving ∧ x.timer = some 1500000 ∧ x.distance = 89 := by decide

/-! ## The control link -/

/-- R179: the check of "123456789" is 0x6F91 (the published check value of this CRC-16: polynomial 0x1021 reflected, register from
0xFFFF, no final inversion). -/
theorem test_crc16 : crc16 (chars [0x31, 0x32, 0x33, 0x34, 0x35, 0x36, 0x37, 0x38, 0x39]) = 0x6F91 := by decide

/-- R179, R182: the frame of TEXT_DROP of text 1 with tag 7, byte by byte, is dispatched; with a wrong check it is lost. -/
theorem test_request_frame :
    let rx (l : List Byte) : List RxChar := l.map fun b => { byte := b, framed := true }
    let frame := hostFrame 0x0A 7 [1]
    frame.take 6 = [0xA5, 0x0A, 0x07, 0x01, 0x00, 0x01] ∧ frame.length = 8 ∧
      (ran (.requestFrame 0 (rx frame)) (texts [text 1 0] State.reset)).world.texts = [] ∧
      (ran (.requestFrame 0 (rx (frame.set 2 0x08))) (texts [text 1 0] State.reset)).link.losses.badCheck = 1 := by decide

/-- The SERVICE_PUT body, byte by byte from its table in 11.5. -/
theorem test_service_put_body :
    parseRequest 0x06 [0x64, 0x14, 0x56, 0x04, 0xFF, 0xFF, 0x09, 0x02, 0x11, 0x00, 0x0F, 0x3C, 0x02, 0x05, 0x06] =
      .servicePut
        { code := 5220, schedHm := 1110, delay := 65535, platform := 9, side := 2, dest := 17, remark := 0, operator := 15
          boardLead := 60, vias := [5, 6] } := by decide

/-- R180: a gap inside a frame loses it. -/
theorem test_cl_gap :
    let t := ran (.clGap 5000) (link (fun l => { l with rx := .body 4 2 9 [0], rxAt := some 3000 }) State.reset)
    t.link.tx = some (.report { number := 0, dropped := 0, report := .linkError .gap 4 2 1 3 }) ∧ t.time.elapsed = 3348 := by decide

/-- R180, R186: a LINK_ERROR placed before the RESTART of the same characters is on its way, so RESTART does not discard it. -/
theorem test_loss_then_restart :
    let t := ran (.requestFrame 0 ([{ byte := 0xA5, framed := true }, { byte := 0, framed := false }] ++ received (hostFrame 0x20 1 [])))
      State.reset
    t.link.tx = some (.report { number := 0, dropped := 0, report := .linkError .framing 0 0 1 0 }) ∧ t.link.reportSeq = 1 := by
  decide

/-- R178: the new rate applies once the reply has been sent. -/
theorem test_link_set_and_reply_sent :
    let t := ran (.linkSet 0 1 9600) State.reset
    t.link.rate = 115200 ∧ (ran (.replySent 0) t).link.rate = 9600 ∧ (ran (.replySent 0) t).link.slot = none := by decide

/-- R182: kind 0x10 is no request kind; its reply is of kind 0x90. -/
theorem test_unknown_kind : (ran (.unknownKind 0 3 0x10) State.reset).link.slot =
    some { kind := 0x90, tag := 3, status := .unknownKind, adjusted := false, body := .empty } := by decide

/-- R184: HOST_READY lets the report that waits begin. -/
theorem test_host_ready :
    let s := link (fun l => { l with
      hostReady := false, reports := [{ number := 4, dropped := 0, report := .batchExpired 1 0 }] }) State.reset
    (ran (.hostReady 0 true) s).link.tx = some (.report { number := 4, dropped := 0, report := .batchExpired 1 0 }) ∧
      (ran (.hostReady 0 false) s).link.tx = none := by decide

/-- R185: QUERY ZONES gives 48 masks and the concourse's; TEXT 0 is refused. -/
theorem test_query : (ran (.query 0 1 14 0 0 0) State.reset).link.slot.map (·.body) = some (.query (List.replicate 49 1)) ∧
    (ran (.query 0 1 5 0 0 0) State.reset).link.slot.map (·.status) = some .outOfRange := by decide

/-- R186: RESTART empties the tables and discards the reports that wait. -/
theorem test_restart :
    let t := ran (.restart 0 1) (link (fun l => { l with
      reports := [{ number := 4, dropped := 0, report := .batchExpired 1 0 }] }) (peak [service 5220 930 9 .planned]))
    t.world.services = [] ∧ t.world.freeCells = 1536 ∧ t.link.reports = [] ∧ t.time.validity = .setTime ∧
      t.link.slot.map (·.status) = some .ok := by decide

end Sys2Proof.Tests
end

