-- ==== Sys2Proof/Tests/Witnesses.lean ====
section
/-! SUPPORT. Tests/Witnesses.lean: for every statement of Certificates/Slice0/Obligations.lean that has hypotheses, a concrete state
and operands that meet them together, clause by clause, at boundary values where a clause has a range. -/

namespace Sys2Proof.Tests
open Sys2Proof Sys2Proof.Machine

set_option maxRecDepth 4000

/-! ## The machine and its invariants -/

theorem witness_StepRunsTheFrontCommand :
    (State.reset.withPending [.busyReturn 7 0 true, .nominalSecond]).pending = .busyReturn 7 0 true :: [.nominalSecond] ∧
      State.reset.pending = [] := by decide

/-- A running clock, LOCKED, every value at an end of its range. -/
def runningClock : State :=
  clock (fun t => { t with
    elapsed := 5, validity := .setTime, base := 86399999999, trim := 200, slew := -1000000, increment := 997800
    dayStart := 1439, mode := .minute, refState := .locked, watch := some 9, pendingStep := some 2000000
    stepMark := some 5, due := [0] }) (State.reset.withPending [.secondEvent])

theorem witness_EveryStepKeepsTheTimeBaseSound : runningClock.time.Sound ∧ ∃ t, step runningClock = .next t :=
  ⟨{  base := by decide
      trim := by decide
      slew := by decide
      increment := by decide
      dayStart := by decide
      free := by decide
      watch := by decide
      pendingStep := by decide
      stepMark := by show ∀ m ∈ runningClock.time.stepMark, m ≤ _; decide
      unset := by decide }, step_answers _⟩

/-- EL3 in PENDING with a gap open, EL4 SUSPENDED, REF pending. -/
def busyLines : State :=
  line 2 (fun m => { m with state := .pending, rise := some 1, gap := some 2, minHigh := 99, maxHigh := 100 })
    (line 3 (fun m => { m with state := .suspended, rise := some 1, lastHigh := 65535 })
      (line 12 (fun m => { m with state := .pending, rise := some 1, maxHigh := 0 })
        (State.reset.withPending [.gapConfirmed 2])))

theorem witness_EveryStepKeepsTheLinesSound : busyLines.LinesSound ∧ ∃ t, step busyLines = .next t := by
  refine ⟨{ monitors := fun i => ⟨?_, ?_, ?_, ?_, ?_, ?_, ?_⟩, events := ?_, windows := ?_, refMax := ?_, refActive := ?_ },
    step_answers _⟩ <;> (try revert i) <;> decide

/-- Two records in table order, the first carried, and two notices. -/
def filledTable : State :=
  world (fun w => { w with notices := [notice 1, notice 255] })
    (table [{ service 7 (-10) 3 .planned with delay := .minutes 45, effSm := 35 }, service 6 35 3 .boarding]
      (State.reset.withPending [.serviceDrop 0 1 6]))

theorem witness_EveryStepKeepsTheListsInOrder :
    filledTable.world.TableSound ∧ filledTable.world.NoticesSound ∧ ∃ t, step filledTable = .next t :=
  ⟨⟨by decide, by decide, by decide, by decide⟩, ⟨by decide, by decide⟩, step_answers _⟩

/-- Texts of 8 and 9 characters under the first and the last index. -/
def filledPool : State :=
  world (fun w => { w with
    texts := [{ text 1 0 with chars := List.replicate 8 0x41 },
      { text 255 2 with chars := List.replicate 9 0x41, cells := 2 }]
    freeCells := 1533 }) (State.reset.withPending [.textDrop 0 1 1])

theorem witness_EveryStepKeepsTheTextPoolTotal : filledPool.world.PoolSound ∧ ∃ t, step filledPool = .next t :=
  ⟨⟨by decide, by decide, by decide⟩, step_answers _⟩

/-- The records and notices of `filledTable`, their text counted, and a text that nothing names. -/
def namedTexts : State := texts [text 1 4, text 2 0] filledTable

theorem witness_EveryStepKeepsTheTextPoolTotal_uses : namedTexts.world.TablesSound ∧ ∃ t, step namedTexts = .next t :=
  ⟨⟨⟨by decide, by decide, by decide, by decide⟩, ⟨by decide, by decide⟩, ⟨by decide, by decide, by decide⟩,
    ⟨by decide, by decide, by decide⟩⟩, step_answers _⟩

/-- A full cue table. -/
def fullCues : State :=
  cues ((List.range 32).map fun i => { cue (i + 1) i 3 .armed with subject := i + 1 })
    (State.reset.withPending [.cueCancel 0 1 32])

theorem witness_EveryStepKeepsTheCuesInOrder : fullCues.world.CuesSound ∧ fullCues.world.cues.length = 32 ∧
    ∃ t, step fullCues = .next t :=
  ⟨⟨by decide, by decide, by decide, by decide⟩, by decide, step_answers _⟩

/-- String 1 LIT and in part STAGING, string 2 LIT and FAILED, at the end of STAGING. -/
def soundWall : State :=
  commit (fun c => { c with state := .staging, deadlineTimer := some 1500000 })
    (wall 0 (fun x => { x with part := .staging, staged := [stagedRow 0 true, stagedRow 1 false] })
      (wall 1 (fun x => { x with part := .failed, restage := true, cause := some .givenUp })
        (lit 0 (lit 1 (State.reset.withPending [.stagingDeadlineExpiry])))))

theorem witness_EveryStepKeepsTheWallSound : soundWall.world.WallSound ∧ ∃ t, step soundWall = .next t := by
  refine ⟨{ strings := fun n => ⟨⟨?_, ?_, ?_, ?_, ?_⟩, ?_, ?_, ?_, ?_, ?_, ?_, ?_⟩, idle := ?_, latched := ?_, settleTimer := ?_
            deadlineTimer := ?_, staggerTimer := ?_ }, step_answers _⟩ <;> (try revert n) <;> decide

/-- A ticker at its last page over the records and notices of `filledTable`. -/
def lastPage : State :=
  world (fun w => w.setView 0 { w.view 0 with
    windows := (w.view 0).windows.set 2 { Window.reset with
      enabled := true, source := .ticker 1, period := 2, pageIndex := 127, pageTimer := some 2000000 } })
    (filledTable.withPending [.pageExpiry 0 2])

theorem witness_EveryStepKeepsTheWallSound_pages : lastPage.world.PagesSound ∧ lastPage.world.TableSound ∧
    lastPage.world.NoticesSound ∧ ∃ t, step lastPage = .next t :=
  ⟨by show ∀ n, ∀ k : Fin 4, (lastPage.world.view n).windows[k].pageIndex ≤ 127; decide,
    ⟨by decide, by decide, by decide, by decide⟩, ⟨by decide, by decide⟩, step_answers _⟩

/-- Two plays in zones apart, one of them stopping. -/
def twoPlays : State :=
  play 0 .playing { cue 1 0 1 .playing with zones := 3 } (some 9)
    (play 3 .stopping { cue 2 1 1 .playing with zones := 0xFC } (some 9) (State.reset.withPending [.done 0 2]))

theorem witness_EveryStepKeepsThePlaysApart : twoPlays.world.PlaysSound ∧ ∃ t, step twoPlays = .next t := by
  have h : ∀ i j : Fin 4, i ≠ j → ∀ p ∈ twoPlays.world.au.channels[i].play,
      ∀ q ∈ twoPlays.world.au.channels[j].play, p.zones &&& q.zones = 0#8 := by decide
  exact ⟨⟨by decide, fun i j hij p q hp hq => h i j hij p hp q hq⟩, step_answers _⟩

/-- Line 1 pulsing from 719 with a set waiting, line 2 resting. -/
def twoDials : State :=
  dial 0 (fun x => { x with
    enabled := true, dial := 719, width := 2000, drive := .driving, timer := some 9, pending := some (719, .minus) })
    (dial 1 (fun x => { x with width := 100, distance := 719, drive := .resting, timer := some 9 })
      (State.reset.withPending [.dialPulseEnd 0]))

theorem witness_EveryStepKeepsTheDialsSound : (∀ i : Fin 4, twoDials.dials[i].Sound) ∧ ∃ t, step twoDials = .next t := by
  refine ⟨fun i => ⟨?_, ?_, ?_, ?_, ?_⟩, step_answers _⟩
  · revert i; decide
  · revert i; decide
  · revert i; decide
  · revert i; decide
  · show ∀ p ∈ twoDials.dials[i].pending, twoDials.dials[i].drive = .driving ∧ p.1 < 720
    revert i; decide

/-- A waiting request. -/
def waitingRequest : QueuedRequest := { kind := 2, tag := 9, request := .timeStep 1 }

/-- A reply being sent, as many requests waiting as given. -/
def busyLink (k : Nat) : State :=
  link (fun l => { l with
    queue := List.replicate k waitingRequest, partReady := decide (k < 6)
    slot := some (okReply 1 0 false .empty), tx := some (.reply (okReply 1 0 false .empty)) }) State.reset

theorem witness_EveryStepKeepsTheControlLinkSound :
    ((busyLink 8).withPending [.replySent 1]).link.Sound ∧ ∃ t, step ((busyLink 8).withPending [.replySent 1]) = .next t :=
  ⟨{  rate := by decide
      newRate := nofun
      queue := by decide
      negated := by decide
      asserted := by decide
      reports := by decide
      losses := by decide
      dispatched := by decide
      sending := by rintro r ⟨⟩; decide
      gap := by decide }, step_answers _⟩

/-! ## Requests as bytes and as commands -/

theorem witness_ARequestBodyReadsBack : (Request.timeStep (-32768)).wf = true ∧ (Request.timeSet 4294967295).wf = true ∧
    (Request.serviceAmend { code := 65535, delay := some 65535, platform := none, remark := some 255, target := none }).wf =
      true := by decide

theorem witness_AFrameDoesWhatItsCommandDoes : (Request.timeStep (-5)).wf = true ∧ 255 < 256 ∧ State.reset.link.rx = .hunt ∧
    requestCommand 3 255 (.timeStep (-5)) = some (.timeStep 3 255 (-5)) ∧ State.reset.link.idle ∧
    (∀ body ∈ ([[], [0], [0, 0, 0]] : List (List Byte)), isRequestKind 2 = true ∧ parseRequest 2 body = .malformed) ∧
    (∀ kind ∈ [0, 0x22, 255], isRequestKind kind = false) := by
  unfold Link.idle; decide

theorem witness_AFrameDoesWhatItsCommandDoes_lost :
    ([0x00#8, 0x00#8] : List Byte) ≠ checkBytes (le 1 2 ++ le 1 9 ++ le 2 2 ++ [0x01#8, 0x00#8]) ∧
    (List.replicate 1028 (0x41 : Byte)).length ≤ 1028 ∧ (1028 < 1029 ∧ 65535 < 65536) ∧
    (∀ k ∈ [1, 2, 3, 1034], 1 ≤ k ∧ k < (List.replicate 1028 (0x41 : Byte)).length + 7) ∧
    (∀ k ∈ [1, 6], 1 ≤ k ∧ k < ([] : List Byte).length + 7) ∧ State.reset.link.rx = .hunt := by
  rw [List.length_replicate]; decide

theorem witness_ARequestIsRefusedOrWaits : State.reset.link.idle ∧
    requestCommand 7 1 (.timeStep 1) = some (.timeStep 7 1 1) ∧
    (State.reset.after 7).decideRequest (.timeStep 1) = .refuse .wrongState .empty ∧ (busyLink 7).link.slot ≠ none ∧ (busyLink 8).link.slot ≠ none ∧
    requestCommand 0 1 .restart = some (.restart 0 1) ∧ (busyLink 7).link.queue.length < 8 ∧
    8 ≤ (busyLink 8).link.queue.length := by
  unfold Link.idle; decide

/-- A report being sent. -/
def reportSending : State :=
  link (fun l => { l with tx := some (.report { number := 0, dropped := 0, report := .batchExpired 0 0 }) }) State.reset

theorem witness_ReplySentFreesTheSlot :
    reportSending.link.tx = some (.report { number := 0, dropped := 0, report := .batchExpired 0 0 }) ∧
    (busyLink 0).link.tx = some (.reply (okReply 1 0 false .empty)) ∧ (busyLink 0).link.queue = [] ∧
    (busyLink 4).link.tx = some (.reply (okReply 1 0 false .empty)) ∧
    (busyLink 4).link.queue = waitingRequest :: List.replicate 3 waitingRequest := by decide

/-- The engine that a request waiting behind a reply finds, the queue behind it empty. -/
def afterReply (s : State) : State := (s.after 0).setLink { s.link with
  tx := none, slot := none, queue := [], partReady := s.link.partReady || true, rate := s.link.newRate.getD s.link.rate
  newRate := none, rx := if s.link.newRate.isSome then .hunt else s.link.rx }

theorem witness_ReplySentFreesTheSlot_waiting : (busyLink 1).link.queue = waitingRequest :: [] ∧
    (busyLink 1).link.tx = some (.reply (okReply 1 0 false .empty)) ∧
    (afterReply (busyLink 1)).decideRequest waitingRequest.request = .refuse .wrongState .empty ∧
    (timed 0 (busyLink 1)).link.queue = waitingRequest :: [] ∧
    ∃ adjusted body v, (afterReply (timed 0 (busyLink 1))).decideRequest waitingRequest.request = .take adjusted body v :=
  ⟨by decide, by decide, by decide, by decide, _, _, _, rfl⟩

theorem witness_TheLinkAnswersAndLosesAsItMust : State.reset.link.idle ∧ isRequestKind 0 = false ∧
    isRequestKind 0x0E = false ∧ isRequestKind 0x10 = false ∧ isRequestKind 0x22 = false ∧ State.reset.link.rx = .hunt ∧
    (link (fun l => { l with rx := .header [4], rxAt := some 7 }) State.reset).link.rx ≠ .hunt ∧
    (link (fun l => { l with rx := .header [4], rxAt := some 7 }) State.reset).link.rxAt = some 7 ∧
    (7 + 40000000 / (link (fun l => { l with rx := .header [4], rxAt := some 7 }) State.reset).link.rate + 1 = 355 ∧
      (link (fun l => { l with rx := .header [4], rxAt := some 7 }) State.reset).time.elapsed + 354 < 355 ∧
      355 ≤ (link (fun l => { l with rx := .header [4], rxAt := some 7 }) State.reset).time.elapsed + 355) ∧
    State.reset.link.rxAt = none ∧
    9600 ∈ [9600, 19200, 38400, 57600, 115200, 230400, 460800] ∧
    9601 ∉ [9600, 19200, 38400, 57600, 115200, 230400, 460800] := by
  unfold Link.idle; decide

theorem witness_TheLinkAnswersAndLosesAsItMust_query : State.reset.link.idle ∧ ∃ adjusted body bytes,
    ((State.reset.after 5).setLink { State.reset.link with rx := .hunt, rxAt := none, partReady := true }).query 0 0 0 0 =
      .take adjusted body bytes :=
  ⟨by unfold Link.idle; decide, _, _, _, rfl⟩

/-- `soundWall` with a settle time. -/
def restarting (settle : Nat) : State :=
  commit (fun c => { c with settings := { c.settings with settle := settle } }) soundWall

theorem witness_RestartEmptiesThePicture : twoPlays.link.idle ∧
    (twoPlays.world.au.channels[(0 : Fin 4)].play ≠ none ∧ twoPlays.world.au.channels[(0 : Fin 4)].phase = .playing ∧
      twoPlays.world.au.channels[(3 : Fin 4)].phase = .stopping) ∧
    (∀ settle ∈ [0, 200], (restarting settle).link.idle ∧ (restarting settle).world.commit.settings.settle = settle ∧
      (restarting settle).world.ready 0 = true ∧ (restarting settle).world.ready 2 = false) := by
  unfold Link.idle; decide

theorem witness_RestartEmptiesThePicture_sound : (restarting 0).world.WallSound := by
  refine { strings := fun n => ⟨⟨?_, ?_, ?_, ?_, ?_⟩, ?_, ?_, ?_, ?_, ?_, ?_, ?_⟩, idle := ?_, latched := ?_, settleTimer := ?_
           deadlineTimer := ?_, staggerTimer := ?_ } <;> (try revert n) <;> decide

/-! ## Time -/

/-- SET at 18:10:20.3, the reference as given. -/
def setAt (state : RefState) (mode : RefMode) : State :=
  clock (fun t => { t with refState := state, mode := mode }) (timed (hms 18 10 20 + 300000) State.reset)

theorem witness_TimeRequestsMoveTheTime : State.reset.link.idle ∧ State.reset.time.validity = .unsetTime ∧ 86399999 ≤ 86399999 ∧
    (setAt .free .none).link.idle ∧ (setAt .free .none).time.validity = .setTime ∧ (setAt .free .none).time.dayStart ≤ 1439 ∧
    ((setAt .free .none).time.runTo 40).refState ≠ .locked ∧ (setAt .locked .minute).link.idle ∧
    (setAt .locked .minute).time.validity = .setTime ∧ ((setAt .locked .minute).time.runTo 40).refState = .locked := by
  unfold Link.idle; decide

theorem witness_TimeRequestsMoveTheTime_step : (setAt .free .none).link.idle ∧ (setAt .free .none).time.validity = .setTime ∧
    (setAt .free .none).time.dayStart ≤ 1439 ∧ (1440 : Int) ≠ 0 ∧ (-1440 : Int) ≤ 1440 ∧ (1440 : Int) ≤ 1440 ∧
    (-1440 : Int) ≠ 0 ∧ (-1440 : Int) ≤ -1440 := by
  unfold Link.idle; decide

theorem witness_TimeRequestsMoveTheTime_refusals : State.reset.link.idle ∧ 86399999 < 86400000 ∧ (0 : Int) = 0 ∧ (-1441 : Int) < -1440 ∧
    (1440 : Int) < 1441 ∧ (-1440 : Int) ≠ 0 ∧ State.reset.time.validity = .unsetTime := by
  unfold Link.idle; decide

theorem witness_TheClockKeepsItsRate : State.reset.link.idle ∧ 2 < 3 ∧ 1439 < 1440 ∧
    (filledTable.link.idle ∧ 1439 ≠ (filledTable.time.runTo 5).dayStart ∧
      ¬ (filledTable.world.services = [] ∧ filledTable.world.notices = [])) ∧
    (180 = (filledTable.time.runTo 5).dayStart) ∧
    (State.reset.world.services = [] ∧ State.reset.world.notices = []) ∧
    (runningClock.time.watch = some 9 ∧ runningClock.time.refState = .locked) ∧
    State.reset.time.validity = .unsetTime := by
  unfold Link.idle; decide

/-- SET a tenth of a second before midnight. -/
def nearMidnight : State := timed 86399900000 State.reset

theorem witness_ASecondEventComesAtTheNextWholeSecond : (nearMidnight.time.Sound ∧ nearMidnight.time.due = [] ∧
    nearMidnight.time.validity = .setTime) ∧ (clock (fun t => { t with elapsed := 3 }) State.reset).time.due = [] ∧
    (clock (fun t => { t with elapsed := 3 }) State.reset).time.validity = .unsetTime ∧ runningClock.time.due = 0 :: [] :=
  ⟨⟨{ base := by decide
      trim := by decide
      slew := by decide
      increment := by decide
      dayStart := by decide
      free := by decide
      watch := by decide
      pendingStep := by decide
      stepMark := nofun
      unset := by decide }, by decide, by decide⟩, by decide⟩

theorem witness_ASecondEventComesAtTheNextWholeSecond_unset :
    (clock (fun t => { t with elapsed := 3 }) State.reset).time.Sound where
  base := by decide
  trim := by decide
  slew := by decide
  increment := by decide
  dayStart := by decide
  free := by decide
  watch := by decide
  pendingStep := by decide
  stepMark := nofun
  unset := by decide

/-- 03:00 with two records, one that is carried and one that retires. -/
def atTheRoll (held : Bool) : State :=
  clock (fun t => { t with due := [10800000000], rollHeld := held })
    (timed 10800000000 (table [service 6155 1438 0 .planned, service 6168 1475 0 .planned] State.reset))

theorem witness_EveryRecordIsEvaluated : ((atTheRoll true).world.services.map (·.code)).Nodup ∧
    (atTheRoll true).time.due ≠ [] ∧ (ran .secondEvent (atTheRoll true)).world.services ≠ [] ∧
    (atTheRoll true).link.idle ∧ (ran (.timeStep 0 1 1) (atTheRoll true)).world.services ≠ [] ∧
    (ran (.timeSet 0 1 5000000) (atTheRoll true)).world.services ≠ [] ∧
    (ran (.timeSet 0 1 5000000) (atTheRoll true)).time.station ≠ ((atTheRoll true).time.runTo 0).station := by
  unfold Link.idle; decide

theorem witness_EveryRecordIsEvaluated_next : exec .secondEvent (atTheRoll true) = .next (ran .secondEvent (atTheRoll true)) ∧
    exec (.timeStep 0 1 1) (atTheRoll true) = .next (ran (.timeStep 0 1 1) (atTheRoll true)) ∧
    exec (.timeSet 0 1 5000000) (atTheRoll true) = .next (ran (.timeSet 0 1 5000000) (atTheRoll true)) :=
  ⟨exec_ran _ _, exec_ran _ _, exec_ran _ _⟩

/-- A tenth of a second or half a minute before 03:00, with the records of `atTheRoll`. -/
def beforeTheRoll (before : Nat) (held : Bool) : State :=
  clock (fun t => { t with base := 10800000000 - before, due := [] }) (atTheRoll held)

theorem beforeTheRoll_sound (before : Nat) (held : Bool) : (beforeTheRoll before held).time.Sound where
  base := Nat.lt_of_le_of_lt (Nat.sub_le _ _) (by decide)
  trim := (by decide : (-200 : Int) ≤ 0 ∧ (0 : Int) ≤ 200)
  slew := (by decide : (-1000000 : Int) ≤ 0 ∧ (0 : Int) ≤ 1000000)
  increment := (by decide : 997800 ≤ 1000000 ∧ 1000000 ≤ 1002200)
  dayStart := (by decide : 180 ≤ 1439)
  free := ⟨fun _ => rfl, fun _ => rfl⟩
  watch := nofun
  pendingStep := nofun
  stepMark := nofun
  unset := nofun

/-- Half a second past 03:00 with the records of `atTheRoll`. -/
def nearRecords : State := clock (fun t => { t with base := 10800500000, due := [] }) (atTheRoll false)

/-- A reference pulse at 18:09:59.25 that steps T forward by two seconds, D at 18:10, with the records of `atTheRoll`. -/
def pulseOverTheRoll (held : Bool) : State :=
  clock (fun t => { t with
    elapsed := 60250000, mode := .minute, refState := .locked, lastPulse := some 0, watch := some 90000000, dayStart := 1090
    rollHeld := held, pendingStep := some (-2000000), base := hms 18 9 59, due := [] })
    (line 12 (fun m => { m with
      state := .pending, rise := some 60000000, gap := some 60200000, riseTime := some (hms 18 9 58), pin := false })
      (atTheRoll held))

theorem witness_EveryRecordIsEvaluated_more : ((beforeTheRoll 100000 false).world.services.map (·.code)).Nodup ∧
    (beforeTheRoll 100000 false).time.due = [] ∧ (beforeTheRoll 100000 false).time.Sound ∧
    exec .secondEvent (beforeTheRoll 100000 false) = .next (ran .secondEvent (beforeTheRoll 100000 false)) ∧
    (ran .secondEvent (beforeTheRoll 100000 false)).world.services ≠ [] ∧
    exec (.gapConfirmed refLine) (pulseOverTheRoll true) = .next (ran (.gapConfirmed refLine) (pulseOverTheRoll true)) ∧
    (ran (.gapConfirmed refLine) (pulseOverTheRoll true)).world.services ≠ [] ∧
    (let t := ran (.gapConfirmed refLine) (pulseOverTheRoll true)
    t.time.station ≠ ((pulseOverTheRoll true).time.runTo t.time.elapsed).station) :=
  ⟨by decide, by decide, beforeTheRoll_sound _ _, exec_ran _ _, by decide, exec_ran _ _, by decide, by decide⟩

/-- 18:03, which is service minute 903. -/
def at903 : Env := (timed (hms 18 3 0) State.reset).env

/-- Records at the ends of the ranges of an evaluation: the lead of 10 minutes, the close lead of 60 s, `overdue`, the display time of 10
minutes, and the holds of 120 s, 10 minutes and 120 minutes. -/
theorem witness_EveryRecordIsEvaluated_one :
    let p := State.reset.world.policy
    let left (sm : Int) : Int := sm * 60000 - at903.nms
    State.reset.env.valid = false ∧ at903.valid = true ∧
    (left 913 ≤ p.boardLead * 60000 ∧ ¬ left 914 ≤ p.boardLead * 60000 ∧ left 904 ≤ p.closeLead * 1000 ∧
      ¬ left 905 ≤ p.closeLead * 1000) ∧
    (left 902 ≤ -60000 ∧ left 903 ≤ 0 ∧ ¬ left 903 ≤ -60000 ∧ 0 < left 904) ∧
    (at903.age (at903.timeMs - 600000) = p.changeDisplay * 60000 ∧ at903.age (at903.timeMs + 1) < 0) ∧
    at903.age (at903.timeMs - 120000) = p.departedHold * 1000 ∧ left 893 ≤ -(p.cancelHold * 60000) ∧
    left 783 ≤ -(p.abandon * 60000) := by decide

theorem witness_TheDayRollCarriesTheTable : (∀ held, ((atTheRoll held).world.services.map (·.code)).Nodup ∧
    (atTheRoll held).time.due = ((atTheRoll held).time.dayStart * 60000000) :: [] ∧
    (atTheRoll held).time.rollHeld = held) ∧ (ran .secondEvent (atTheRoll false)).world.services ≠ [] ∧
    (1440 ≤ (service 6168 1475 0 .planned).effSm ∧
      ({ service 6168 1475 0 .planned with schedSm := 35, effSm := 35 }.evaluate (atTheRoll false).world.policy
        (ran .secondEvent (atTheRoll false)).env).2 = none) ∧
    ∀ r ∈ (atTheRoll true).world.services,
      (r.evaluate (atTheRoll true).world.policy (ran .secondEvent (atTheRoll true)).env).2 = none := by decide

/-- The second event runs on to the boundary, with roll held clear and set. -/
theorem witness_TheDayRollCarriesTheTable_running : ∀ held, ((beforeTheRoll 100000 held).time.due = [] ∧
    (beforeTheRoll 100000 held).time.Sound ∧ ((beforeTheRoll 100000 held).world.services.map (·.code)).Nodup ∧
    ((beforeTheRoll 100000 held).time.runTo (ran .secondEvent (beforeTheRoll 100000 held)).time.elapsed).due =
      [(beforeTheRoll 100000 held).time.dayStart * 60000000]) ∧ (beforeTheRoll 100000 held).time.rollHeld = held :=
  fun held => ⟨⟨rfl, beforeTheRoll_sound _ _, by revert held; decide, by revert held; decide⟩, rfl⟩

/-- Half a minute before the boundary TIME_STEP and TIME_SET move T over it, and a TIME_STEP back does not; a pulse moves T over it. -/
theorem witness_TheDayRollCarriesTheTable_steps : let s (held : Bool) := beforeTheRoll 30000000 held
    (∀ held, (s held).link.idle ∧ (s held).time.validity = .setTime ∧ (s held).time.dayStart ≤ 1439 ∧
      (s held).time.rollHeld = held ∧ (s held).time.dayStart * 60000000 = 10800000000 ∧
      ((s held).time.runTo ((s held).time.elapsed + 0)).station = 10770000000) ∧
    meetsForward 10800000000 10770000000 (1 * 60000000) ∧ ¬ meetsForward 10800000000 10770000000 (-1 * 60000000) ∧
    ((ran (.timeSet 0 1 10800000) (s false)).time.station : Int) = (10770000000 + 30000000) % 86400000000 ∧
    meetsForward 10800000000 10770000000 30000000 ∧
    ∀ held, (pulseOverTheRoll held).time.rollHeld = held ∧ (pulseOverTheRoll held).time.dayStart * 60000000 = hms 18 10 0 ∧
      (let t := ran (.gapConfirmed refLine) (pulseOverTheRoll held)
      ((pulseOverTheRoll held).time.runTo t.time.elapsed).station = hms 18 9 59 + 250000 ∧
        (t.time.station : Int) = (hms 18 9 59 + 250000 + 2000000) % 86400000000) ∧
      meetsForward (hms 18 10 0) (hms 18 9 59 + 250000) 2000000 :=
  ⟨by unfold Link.idle; decide, ⟨30000000, by decide, by decide, by decide⟩, fun ⟨k, h1, h2, _⟩ => by omega, by decide,
    ⟨30000000, by decide, by decide, by decide⟩, fun held => ⟨by revert held; decide, by revert held; decide, by revert held; decide, ⟨750000, by decide, by decide, by decide⟩⟩⟩

/-- A whole second that is not the day-start boundary, waiting or run on to, and records that no evaluation retires. -/
theorem witness_TheDayRollCarriesTheTable_second : let s (due : List Nat) := clock (fun t => { t with due := due }) nearRecords
    (nearRecords.world.services.map (·.code)).Nodup ∧ (s [10861000000]).time.due = 10861000000 :: [] ∧
    (s []).time.Sound ∧ ((s []).time.runTo (ran .secondEvent (s [])).time.elapsed).due = [10801000000] ∧
    10801000000 ≠ (s []).time.dayStart * 60000000 ∧ 10861000000 ≠ (s []).time.dayStart * 60000000 ∧
    ∃ r ∈ (s []).world.services, (r.evaluate (s []).world.policy (ran .secondEvent (s [])).env).2 = none :=
  ⟨by decide, rfl,
    ⟨by decide, by decide, by decide, by decide, by decide, by decide, by decide, by decide, nofun, by decide⟩,
    by decide, by decide, by decide, by decide⟩

/-! ## Lines -/

theorem witness_TheLinesAreSetAndCleared : State.reset.link.idle ∧ (11 : LineNo) ≠ refLine ∧
    Role.ofCode 2 48 = some (.dispatch 48) ∧ Role.ofCode 0 0 = some .none ∧ (12 < 13 ∧ 2 < 3 ∧ 48 < 49) ∧
    (let a := max 10 (min 5000 100)
    let b := if 100 = 0 then 0 else max 100 (min 60000 100)
    b ≠ 0 ∧ b ≤ a) ∧
    (let a := max 10 (min 5000 9)
    let b := if 60001 = 0 then 0 else max 100 (min 60000 60001)
    ¬ (b ≠ 0 ∧ b ≤ a)) ∧
    (State.reset.lines[(11 : LineNo)].polarity = .activeHigh ∧ State.reset.lines[(11 : LineNo)].minHigh = 50 ∧
      State.reset.lines[(11 : LineNo)].maxHigh = 10000 ∧ State.reset.lines[(11 : LineNo)].minLow = 50) := by
  unfold Link.idle; decide

theorem witness_TheLinesAreSetAndCleared_ref : State.reset.link.idle ∧ (1 ≠ 0) ∧
    (let w : RefWindows :=
      { secLo := max 10 (min 900 500), secHi := max 10 (min 900 500), minLo := max 10 (min 30000 100)
        minHi := max 10 (min 30000 2000) }
    w.secHi ≤ w.secLo) ∧
    (let b := max 100 (min 60000 2001)
    let w : RefWindows :=
      { secLo := max 10 (min 900 20), secHi := max 10 (min 900 21), minLo := max 10 (min 30000 100)
        minHi := max 10 (min 30000 2000) }
    ¬ (w.secHi ≤ w.secLo ∨ w.minHi ≤ w.minLo ∨ (b ≠ 0 ∧ (b ≤ w.secHi ∨ b ≤ w.minHi)))) ∧
    (State.reset.lines[refLine].polarity = .activeHigh ∧ State.reset.lines[refLine].minLow = max 10 (min 5000 50) ∧
      State.reset.lines[refLine].maxHigh = max 100 (min 60000 10000)) ∧
    ¬ State.reset.lines[refLine].minLow = max 10 (min 5000 5001) ∧ ¬ State.reset.lines[refLine].polarity = .activeLow ∧
    (∀ p ∈ [Polarity.activeHigh, .activeLow], State.reset.lines[refLine].pin = (p == .activeHigh) ↔ p = .activeLow) ∧
    (8191 ≠ 0 ∧ 8191 < 8192) ∧ 8192 ≤ 8192 := by
  unfold Link.idle; decide

/-- EL1 in a state with a rise mark, the pin at a level. -/
def el1 (state : MonState) (rise gap : Option Nat) (pin : Bool) : State :=
  line 0 (fun m => { m with state := state, rise := rise, gap := gap, pin := pin, quietFrom := none }) State.reset

/-- REF in a state with a rise mark, the pin at a level. -/
def ref (state : MonState) (rise gap : Option Nat) (pin : Bool) : State :=
  line 12 (fun m => { m with state := state, rise := rise, gap := gap, pin := pin, quietFrom := none }) State.reset

theorem witness_EdgesOpenBridgeAndSuspend :
    ((el1 .idle none none false).lines[(0 : LineNo)].pin ≠ true ∧ (el1 .rearm none none false).lines[(0 : LineNo)].pin ≠ true) ∧
    (el1 .pending (some 0) (some 9) false).lines[(0 : LineNo)].state = .pending ∧ (0 : LineNo) ≠ refLine ∧
    (∀ x ∈ (el1 .pending (some 0) (some 9) false).lines[(0 : LineNo)].rise,
      0 + 49999 < x + (el1 .pending (some 0) (some 9) false).lines[(0 : LineNo)].minHigh * 1000) ∧
    (∀ x ∈ (ref .pending (some 0) (some 9) false).lines[refLine].rise,
      0 + 9999999 < x + (ref .pending (some 0) (some 9) false).lines[refLine].maxHigh * 1000) ∧
    (∀ x ∈ (el1 .active (some 0) (some 9) false).lines[(0 : LineNo)].rise,
      0 + 9999999 < x + (el1 .active (some 0) (some 9) false).lines[(0 : LineNo)].maxHigh * 1000) ∧
    ((el1 .active (some 0) (some 9) false).lines[(0 : LineNo)].maxHigh ≠ 0 ∧
      0 + (el1 .active (some 0) (some 9) false).lines[(0 : LineNo)].maxHigh * 1000 ≤ 0 + 10000000) ∧
    ((ref .pending (some 0) (some 9) false).lines[refLine].maxHigh ≠ 0 ∧
      0 + (ref .pending (some 0) (some 9) false).lines[refLine].maxHigh * 1000 ≤ 0 + 10000000) ∧
    (el1 .active (some 0) none true).lines[(0 : LineNo)].pin = true ∧
    (State.reset.lines[(0 : LineNo)].state = .rearm ∧ State.reset.lines[(0 : LineNo)].quietFrom = some 0) ∧
    ((el1 .active (some 0) none true).lines[(0 : LineNo)].rise = some 0 ∧
      (el1 .active (some 0) none true).lines[(0 : LineNo)].gap = none ∧
      (el1 .active (some 0) none true).lines[(0 : LineNo)].maxHigh ≠ 0) ∧
    ((ref .pending (some 0) none true).lines[refLine].state = .pending ∧
      (ref .pending (some 0) none true).lines[refLine].gap = none ∧
      (ref .pending (some 0) none true).lines[refLine].maxHigh ≠ 0) := by decide

/-- EL1 with a gap open and a glitch told at elapsed time 0. -/
def glitched (state : MonState) (now : Nat) : State :=
  clock (fun t => { t with elapsed := now })
    (line 0 (fun m => { m with lastGlitch := some 0 }) (el1 state (some 1000) (some 2000) false))

theorem witness_AConfirmedGapEndsTheLevel :
    (∀ state ∈ [MonState.active, .suspended, .pending], (glitched state 0).lines[(0 : LineNo)].gap = some 2000 ∧
      (glitched state 0).lines[(0 : LineNo)].rise = some 1000 ∧ (glitched state 0).lines[(0 : LineNo)].state = state) ∧
    (∀ x ∈ (glitched .pending 60000000).lines[(0 : LineNo)].lastGlitch, x + 60000000 ≤ max 60000000 (2000 + 50 * 1000)) ∧
    ((glitched .pending 59999999).lines[(0 : LineNo)].lastGlitch = some 0 ∧
      max 59999999 (2000 + 50 * 1000) < 0 + 60000000) ∧
    (∀ gap ∈ [20999, 502000], (ref .pending (some 1000) (some gap) false).lines[refLine].gap = some gap ∧
      (ref .pending (some 1000) (some gap) false).lines[refLine].rise = some 1000 ∧
      (ref .pending (some 1000) (some gap) false).lines[refLine].state = .pending) ∧
    State.reset.time.mode ≠ .minute ∧ (20999 - 1000) / 1000 < State.reset.refWindows.secLo ∧
    (State.reset.refWindows.secLo ≤ (502000 - 1000) / 1000 ∧ State.reset.refWindows.secHi < (502000 - 1000) / 1000) := by decide

/-- EL1 with role DISPATCH(7) pending, and at platform 7 a record in BOARDING behind one that is PLANNED. -/
def dispatchPending (l : List Service) : State :=
  line 0 (fun m => { m with role := .dispatch 7 }) (table l (el1 .pending (some 1000) none true))

theorem witness_AQualifiedEdgeDepartsAService :
    ((dispatchPending []).lines[(0 : LineNo)].state = .pending ∧ (dispatchPending []).lines[(0 : LineNo)].gap = none ∧
      (dispatchPending []).lines[(0 : LineNo)].rise = some 1000 ∧ max 0 (1000 + 50 * 1000) < 1000 + 10000 * 1000) ∧
    ((dispatchPending [service 3 10 7 .planned, service 4 20 7 .boarding]).world.services.find? fun r =>
      r.platform == 7 && (r.state == .boarding || r.state == .closing)) = some (service 4 20 7 .boarding) ∧
    ((dispatchPending [service 3 10 7 .planned]).world.services.find? fun r =>
      r.platform == 7 && (r.state == .boarding || r.state == .closing)) = none ∧
    (el1 .pending (some 1000) none true).lines[(0 : LineNo)].role = .none ∧
    1000 + 10000 * 1000 ≤ max 10001000 (1000 + 50 * 1000) ∧
    ((el1 .pending (some 1000) (some 2000) false).lines[(0 : LineNo)].pin ≠ true ∧
      (∀ dt ∈ [50999 + 1, 10000999, 10001000], 1000 + 50 * 1000 ≤ 0 + dt) ∧ max 0 (0 + 10000999) < 1000 + 10000 * 1000 ∧
      1000 + 10000 * 1000 ≤ max 0 (0 + 10001000)) := by decide

/-- At 18:10 the departed record stays, and so does the other. -/
theorem witness_AQualifiedEdgeDepartsAService_stays :
    let s := timed (hms 18 10 0) (dispatchPending [service 3 915 7 .planned, service 4 920 7 .boarding])
    let e := (ran (.qualificationTime 0) s).env
    (s.world.services.find? fun r => r.platform == 7 && (r.state == .boarding || r.state == .closing)) =
        some (service 4 920 7 .boarding) ∧ (s.world.services.map (·.code)).Nodup ∧
      ({ service 4 920 7 .boarding with state := .departed, departedMs := some (hms 18 10 0 / 1000 + 51) }.evaluate
        s.world.policy e).2 = none ∧
      ((service 3 915 7 .planned).evaluate s.world.policy e).2 = none := by decide

/-- EL1 in a role, pending with a host cue bound to it, the announcement unit UNAVAILABLE. -/
def boundLine (role : Role) (delay : Nat) : State :=
  unit (fun a => { a with available := false })
    (line 0 (fun m => { m with role := role })
      (cues [{ cue 8 0 1 .armed with mode := .triggered, line := some 1, delayS := some delay },
          { cue 9 1 1 .armed with
            origin := .auto, kind := .approach, subject := 4, mode := .triggered, delayS := some 0 }]
        (table [service 3 10 7 .boarding, service 4 20 7 .closing] (texts [text 1 0] (el1 .pending (some 1000) none true)))))

theorem witness_AQualifiedEdgeDepartsAService_cues : ∀ role ∈ [Role.none, .approach 7, .dispatch 8, .dispatch 7], ∀ delay ∈ [0, 1],
    let s := boundLine role delay
    s.lines[(0 : LineNo)].role = role ∧ s.lines[(0 : LineNo)].state = .pending ∧ s.world.CuesSound ∧
    s.world.au.available = false ∧ 30 ≤ s.world.policy.departedHold ∧
    ((∃ c ∈ s.world.cues, c.origin = .host ∧ c.line = some 1 ∧ c.state = .armed ∧ c.mode.isTriggered = true ∧ c.timer = none ∧
        (delay = 0 → 51000 + c.delayS.getD 0 * 1000000 ≤ 51000) ∧ (delay = 1 → 51000 < 51000 + c.delayS.getD 0 * 1000000)) ∧
      ∃ c ∈ s.world.cues, c.origin = .auto ∧ c.kind = .approach ∧ c.state = .armed ∧ c.mode.isTriggered = true ∧
        c.timer = none ∧ c.subject = 4) := by
  intro role hr delay hd
  fin_cases hr <;> fin_cases hd <;>
    exact ⟨by decide, by decide, ⟨by decide, by decide, by decide, by decide⟩, by decide, by decide, by decide⟩

/-- REF with a pulse of 200 ms about to be accepted in LOCKED, MINUTE mode, the rise a whole second past the minute. -/
def lockedPulse : State :=
  clock (fun t => { t with
    elapsed := 60250000, mode := .minute, refState := .locked, lastPulse := some 0, watch := some 90000000 })
    (timed (hms 18 10 1 + 250000)
      (line 12 (fun m => { m with
        state := .pending, rise := some 60000000, gap := some 60200000, riseTime := some (hms 18 10 1), pin := false })
        State.reset))

theorem witness_AReferencePulseTrimsTheClock : lockedPulse.lines[refLine].state = .pending ∧
    lockedPulse.lines[refLine].gap = some 60200000 ∧ lockedPulse.lines[refLine].rise = some 60000000 ∧
    lockedPulse.lines[refLine].riseTime = some (hms 18 10 1) ∧ lockedPulse.time.validity = .setTime ∧
    lockedPulse.time.refState = .locked ∧ lockedPulse.time.mode ≠ .none ∧
    (∀ m ∈ lockedPulse.time.stepMark, m ≤ 60000000) ∧ lockedPulse.refWindows.minLo ≤ (60200000 - 60000000) / 1000 ∧
    (60200000 - 60000000) / 1000 ≤ lockedPulse.refWindows.minHi ∧
    (lockedPulse.time.lastPulse = some 0 ∧ 60000000 ≤ 2 * (60000000 - 0)) ∧
    ((clock (fun t => { t with refState := .acquiring, watch := none }) lockedPulse).time.refState = .acquiring ∧
      2 * (60000000 - 0) ≤ 3 * 60000000) ∧ 2 * (hms 18 10 1 % 60000000) < 60000000 ∧
    ((hms 18 10 1 % 60000000 : Nat) : Int).natAbs ≤ 1000000 := by decide

/-- The pulse of `lockedPulse` under another reference state, two seconds past the minute, the pulse counted last as given. -/
def judgedPulse (state : RefState) (last candidate : Option Nat) : State :=
  clock (fun t => { t with
    refState := state, lastPulse := last, watch := if state = .locked then some 90000000 else none
    pendingStep := candidate.map Int.ofNat })
    (line 12 (fun m => { m with riseTime := some (hms 18 10 2) }) lockedPulse)

theorem witness_AReferencePulseIsJudged :
    (∀ state ∈ [RefState.free, .holdover, .acquiring, .locked], ∀ last ∈ [none, some 0, some 30000001],
      (judgedPulse state last none).lines[refLine].state = .pending ∧
      (judgedPulse state last none).lines[refLine].gap = some 60200000 ∧
      (judgedPulse state last none).lines[refLine].rise = some 60000000 ∧
      (judgedPulse state last none).lines[refLine].riseTime = some (hms 18 10 2) ∧
      (judgedPulse state last none).time.refState = state ∧ (judgedPulse state last none).time.lastPulse = last) ∧
    (lockedPulse.refWindows.minLo ≤ (60200000 - 60000000) / 1000 ∧
      (60200000 - 60000000) / 1000 ≤ lockedPulse.refWindows.minHi) ∧
    2 * (60000000 - 30000001) < 60000000 ∧ 3 * 60000000 < 2 * (90000001 - 0) ∧
    (¬ 2 * (60000000 - 0) < 60000000 ∧ ¬ 3 * 60000000 < 2 * (60000000 - 0)) ∧
    (∀ candidate ∈ [none, some 2100001, some 2100000], (judgedPulse .locked (some 0) candidate).time.validity = .setTime ∧
      (∀ x ∈ (judgedPulse .locked (some 0) candidate).time.stepMark, x ≤ 60000000)) ∧
    (2 * (hms 18 10 2 % 60000000) < 60000000 ∧ 1000000 < (((hms 18 10 2 % 60000000 : Nat) : Int)).natAbs) ∧
    100000 < ((2000000 : Int) - 2100001).natAbs ∧ ((2000000 : Int) - 2100000).natAbs ≤ 100000 ∧
    (judgedPulse .locked (some 0) (some 2100000)).time.dayStart ≤ 1439 ∧
    ¬ (clock (fun t => { t with validity := .unsetTime, base := 0 }) (judgedPulse .locked (some 0) none)).time.validity =
      .setTime ∧
    ¬ ∀ x ∈ (clock (fun t => { t with stepMark := some 60000001 }) (judgedPulse .locked (some 0) none)).time.stepMark,
      x ≤ 60000000 := by decide

/-! ## Services, texts and notices -/

/-- A SERVICE_PUT of code 5220 at 18:30 (3.5, "a put into a full table"). -/
def put5220 : ServicePutReq where
  code := 5220
  schedHm := 1110
  delay := 0
  platform := 0
  side := 0
  dest := 1
  remark := 0
  operator := 0
  boardLead := 0
  vias := []

/-- 18:03:30 with text 1 stored and the records given. -/
def evening (l : List Service) : State := timed (hms 18 3 30) (table l (texts [text 1 0] State.reset))

theorem witness_ServicePutInsertsARecord : (evening [service 4112 902 3 .closing]).link.idle ∧
    Side.ofCode put5220.side = some .none ∧ servicePutBad put5220 = false ∧
    (evening [service 4112 902 3 .closing]).world.textsStored put5220 = true ∧
    (evening [service 4112 902 3 .closing]).world.service 5220 = none ∧
    (evening [service 4112 902 3 .closing]).world.services.length < 128 ∧
    ((evening [service 4112 902 3 .closing]).world.services.map (·.code)).Nodup ∧
    (((evening [service 4112 902 3 .closing]).after 0).env.valid = true ∧
      -1800000 ≤ ((evening [service 4112 902 3 .closing]).after 0).env.timeTo 930) := by
  unfold Link.idle; decide

/-- A table of 128 records, the last one in a state. -/
def fullTable (last : SvcState) : State :=
  evening ((List.range 128).map fun i => service (i + 1) 902 3 (if i = 127 then last else .closing))

theorem fullTable_codes (last : SvcState) : ((fullTable last).world.services.map (·.code)).Nodup := by
  show (((List.range 128).map fun i => service (i + 1) 902 3 (if i = 127 then last else .closing)).map (·.code)).Nodup
  rw [List.map_map]
  exact List.Nodup.map (fun a b h => Nat.succ.inj h) List.nodup_range

theorem witness_ServicePutInsertsARecord_refusals : Side.ofCode 6 = none ∧ servicePutBad { put5220 with code := 0 } = true ∧
    (evening []).world.textsStored { put5220 with dest := 2 } = false ∧
    (((1053 : Int) - (evening []).time.dayStart) % 1440 = 873 ∧ ((evening []).after 0).env.valid = true ∧
      ((evening []).after 0).env.timeTo 873 < -1800000) ∧
    (128 ≤ (fullTable .closing).world.services.length ∧ (fullTable .closing).world.service 5220 = none ∧
      ∀ y ∈ (fullTable .closing).world.services, y.state ≠ .departed) ∧
    (128 ≤ (fullTable .departed).world.services.length ∧ (fullTable .departed).world.service 5220 = none ∧
      (fullTable .departed).world.services.find? (·.state == .departed) = some (service 128 902 3 .departed)) := by decide

/-- The amendment of one record: every part present. -/
def amendAll (delay : Nat) (target : Option Nat) : AmendReq :=
  { code := 5220, delay := some delay, platform := some (11, 0), remark := some 1, target := target }

theorem witness_PutAndAmendChangeARecord :
    let s := evening [service 4112 902 3 .closing, service 5220 930 9 .planned]
    s.link.idle ∧ (s.world.services.map (·.code)).Nodup ∧ Side.ofCode put5220.side = some .none ∧
    servicePutBad put5220 = false ∧ s.world.textsStored put5220 = true ∧
    s.world.service 5220 = some (service 5220 930 9 .planned) ∧
    ¬ ((service 5220 930 9 .planned).schedSm < 0 ∧
      (replacedService put5220 .none (s.after 0).env (service 5220 930 9 .planned)).effSm < 0) ∧
    (∀ r ∈ [amendAll 719 none, amendAll 65535 (some 1), amendAll 5 (some 0)], amendBad r = false ∧
      s.world.remarkStored (r.remark.getD 0) = true ∧ amendDelayBad r (service 5220 930 9 .planned) = false ∧
      amendTargetBad r (service 5220 930 9 .planned) = false) ∧
    (service 5220 930 9 .planned).state ≠ .departed := by
  unfold Link.idle; decide

/-- The replacement changes the platform; one that changes `board_lead` alone, in a record that its evaluation leaves as it is, shows
nothing; an amendment may leave the record as it is. -/
theorem witness_PutAndAmendChangeARecord_rev :
    let s := evening [service 4112 902 3 .closing, service 5220 930 9 .planned]
    let old := service 5220 930 9 .planned
    let same := { put5220 with platform := 9, boardLead := 1 }
    let new := replacedService same .none (s.after 0).env old
    let after := (new.evaluate s.world.policy (s.after 0).env).1
    old.platform ≠ (replacedService put5220 .none (s.after 0).env old).platform ∧
    (servicePutBad same = false ∧ s.world.textsStored same = true ∧ ¬ (old.schedSm < 0 ∧ new.effSm < 0)) ∧
    (old.schedHm = new.schedHm ∧ old.delay = new.delay ∧ old.platform = new.platform ∧ old.side = new.side ∧
      old.prev = new.prev ∧ old.dest = new.dest ∧ old.vias = new.vias ∧ old.remark = new.remark ∧
      old.operator = new.operator ∧ old.state = after.state ∧ old.overdue = after.overdue ∧ old.attention = after.attention) ∧
    old.delay ≠ (amended (amendAll 719 none) (s.after 0).env old).delay ∧
    amended { amendAll 0 none with delay := none, platform := none, remark := none } (s.after 0).env old = old := by decide

/-- The refusals of a replacement and of an amendment: a DEPARTED record, a carried one that would lie before the service day, each
part out of range, a code and a remark that are not stored, and a target that the state does not admit. -/
theorem witness_PutAndAmendChangeARecord_refusals :
    let departed := evening [service 5220 930 9 .departed]
    let carried := evening [service 5220 (-10) 9 .planned]
    let planned := evening [service 5220 930 9 .planned]
    let tooEarly (n : Nat) : Int := -10 + if n = 65535 then 0 else min 719 (n : Int)
    let only : AmendReq := { code := 5220, delay := none, platform := none, remark := none, target := none }
    (departed.link.idle ∧ carried.link.idle ∧ planned.link.idle) ∧
    (Side.ofCode put5220.side = some .none ∧ servicePutBad put5220 = false ∧ departed.world.textsStored put5220 = true ∧
      carried.world.textsStored put5220 = true) ∧
    departed.world.service 5220 = some (service 5220 930 9 .departed) ∧
    carried.world.service 5220 = some (service 5220 (-10) 9 .planned) ∧
    (((1110 : Int) - carried.time.dayStart) % 1440 - 1440 + 0 < 0) ∧
    (∀ r ∈ [{ only with code := 0 }, { only with platform := some (49, 0) }, { only with platform := some (1, 3) },
        { only with platform := some (0, 1) }, { only with target := some 3 }],
      r.code = 0 ∨ (∃ x ∈ r.platform, 48 < x.1 ∨ 2 < x.2 ∨ x.1 = 0 ∧ x.2 ≠ 0) ∨ ∃ k ∈ r.target, 2 < k) ∧
    (only.code ≠ 0 ∧ planned.world.service 5219 = none ∧ planned.world.text 2 = none) ∧
    (tooEarly 9 < 0 ∧ ¬ tooEarly 10 < 0 ∧ tooEarly 65535 < 0) ∧
    (2 = 2 ↔ (service 5220 930 9 .planned).state ≠ .cancelled) ∧
    ∀ k ∈ [0, 1], (k = 2 ↔ (service 5220 930 9 .cancelled).state ≠ .cancelled) := by
  unfold Link.idle; decide

/-- The evening's record, a cue of it and, perhaps, every other slot taken at a priority. -/
def making (others : Nat) (priority : Nat) (c : Cue) : State :=
  cues (c :: (List.range others).map fun i => { cue (i + 10) (i + 1) priority .armed with subject := i + 2 })
    (evening [service 5220 930 9 .planned])

/-- The cue that a cause drafts for service 5220. -/
def drafted (kind : CueKind) : Cue := Cue.draft .auto kind 5220 .oneShot 2

/-- A DELAY cue finds one of its kind and subject, a free slot, a full table with a cue of a larger priority number, or none; with an empty
map its zones are empty. -/
theorem witness_PutAndAmendChangeARecord_makes :
    let old : Cue := { cue 8 0 1 .playing with kind := .delay, subject := 5220 }
    let bare (s : State) : State := world (fun w => { w with zoneMap := [], concourse := 0 }) s
    ((drafted .delay).origin = .auto ∧ (drafted .delay).kind.ofService = true) ∧
    (∀ s ∈ [making 0 0 old, making 30 3 (cue 8 0 1 .armed), making 31 3 (cue 8 0 1 .armed), making 31 2 (cue 8 0 1 .armed)],
      s.world.CuesSound ∧ s.world.autoZones .delay 5220 none ≠ 0 ∧ (bare s).world.autoZones .delay 5220 none = 0) ∧
    (∃ x ∈ (making 0 0 old).world.cues, x.kind = .delay ∧ x.subject = 5220 ∧ x.state.isPending = false) ∧
    ((∀ x ∈ (making 30 3 (cue 8 0 1 .armed)).world.cues, x.slot ≠ 31) ∧
      ∀ j : Fin 32, j < 31 → ∃ x ∈ (making 30 3 (cue 8 0 1 .armed)).world.cues, x.slot = j.val) ∧
    ((∀ k : Fin 32, ∃ x ∈ (making 31 3 (cue 8 0 1 .armed)).world.cues, x.slot = k.val) ∧
      ∃ x ∈ (making 31 3 (cue 8 0 1 .armed)).world.cues, x.slot = 31 ∧ 2 < x.priority ∧
        ∀ y ∈ (making 31 3 (cue 8 0 1 .armed)).world.cues, y.queuedAt = none ∧ y.priority ≤ x.priority ∧ y.slot ≤ x.slot) ∧
    ((∀ k : Fin 32, ∃ x ∈ (making 31 2 (cue 8 0 1 .armed)).world.cues, x.slot = k.val) ∧
      ∀ x ∈ (making 31 2 (cue 8 0 1 .armed)).world.cues, x.priority ≤ 2) := by
  refine ⟨by decide, ?_, by decide, by decide, by decide, by decide⟩
  intro s hs
  fin_cases hs <;> exact ⟨⟨by decide, by decide, by decide, by decide⟩, by decide, by decide⟩

/-- The state in which a put and an amendment leave their cues and nothing more, 27 cues in the table. -/
def calmEvening : State :=
  unit (fun a => { a with available := false })
    (cues ((List.range 27).map fun i => { cue (i + 1) i 3 .armed with subject := i + 1 })
      (evening [service 4112 902 3 .closing, service 5220 930 9 .planned]))

theorem witness_PutAndAmendChangeARecord_calm :
    let s := calmEvening
    let old := service 5220 930 9 .planned
    s.link.idle ∧ s.world.CuesSound ∧ (s.world.cues.length ≤ 27 ∧ (∀ c ∈ s.world.cues, ¬ (c.origin = .auto ∧ c.kind = .platformChange)) ∧
      s.world.au.available = false ∧ s.world.commit.settings.settle ≠ 0) ∧ s.world.service 5220 = some old ∧
    ((replacedService put5220 .none (s.after 0).env old).evaluate s.world.policy (s.after 0).env).2 = none ∧
    ((amended (amendAll 719 none) (s.after 0).env old).evaluate s.world.policy (s.after 0).env).2 = none ∧
    amended (amendAll 719 none) (s.after 0).env old ≠ old :=
  ⟨by unfold Link.idle; decide, ⟨by decide, by decide, by decide, by decide⟩, by decide, by decide, by decide, by decide, by decide⟩

/-- String 1 shows the departures in its four rows. -/
def calmViewed : State :=
  world (fun w => w.setView 0 { w.view 0 with windows := (w.view 0).windows.set 0 { Window.reset with
    enabled := true, rowCount := 4, source := .departures 4 true true 0 } }) (enabled 0 calmEvening)

/-- After a put, a row is covered by a DEPARTURES window alone, and a commit is wanted. -/
theorem witness_PutAndAmendChangeARecord_composes :
    let s := calmViewed
    let t := ran (.servicePut 0 1 put5220) s
    (∀ n, (s.world.view n).targets.length = s.world.rowTotal n) ∧ s.world.commit.state = .quiet ∧
      later t.world.tableSeq t.world.commit.wallSeq = true ∧ 0 < t.world.rowTotal 0 ∧
      (t.world.view 0).windows[(0 : Fin 4)].source = .departures 4 true true 0 ∧
      (∀ k : Fin 4, (t.world.view 0).windows[k].enabled = true ↔ k = 0) ∧
      (t.world.view 0).targets ≠ (s.world.view 0).targets := by decide

theorem witness_ServiceDropRetiresTheRecord : filledTable.link.idle ∧ filledTable.world.service 65535 = none ∧
    filledTable.world.service 6 = some (service 6 35 3 .boarding) ∧ (filledTable.world.services.map (·.code)).Nodup ∧
    (∃ y ∈ filledTable.world.services, y.code ≠ 6 ∧ (y.evaluate filledTable.world.policy (filledTable.after 0).env).2 = none) := by
  unfold Link.idle; decide

/-- `filledTable` with a queued and a playing cue about service 6, the announcement unit UNAVAILABLE. -/
def droppable : State :=
  unit (fun a => { a with available := false })
    (cues [{ cue 8 0 1 .queued with kind := .boarding, subject := 6 }, { cue 9 1 1 .playing with kind := .delay, subject := 6 }]
      filledTable)

theorem witness_ServiceDropRetiresTheRecord_cues : droppable.link.idle ∧ droppable.world.service 6 ≠ none ∧
    droppable.world.CuesSound ∧ droppable.world.au.available = false ∧
    ∃ c ∈ droppable.world.cues, c.kind.ofService = true ∧ c.subject = 6 ∧ c.state.isPending = false :=
  ⟨by unfold Link.idle; decide, by decide, ⟨by decide, by decide, by decide, by decide⟩, by decide, by decide⟩

/-- A pool with one cell free. -/
def fullPool : State := world (fun w => { w with freeCells := 1 }) filledPool

theorem witness_TextsAreStoredAndFreed : filledPool.link.idle ∧
    (∀ l ∈ [0, 65], ¬ (1 ≤ (List.replicate l (0x41 : Byte)).length ∧ (List.replicate l (0x41 : Byte)).length ≤ 64)) ∧
    (¬ ∀ c ∈ ([0xFF] : Chars), 0x20 ≤ c.toNat ∧ c.toNat ≤ 0xFE) ∧
    (∀ l ∈ [1, 64], (1 ≤ (List.replicate l (0xFE : Byte)).length ∧ (List.replicate l (0xFE : Byte)).length ≤ 64 ∧
      ∀ c ∈ List.replicate l (0xFE : Byte), 0x20 ≤ c.toNat ∧ c.toNat ≤ 0xFE)) ∧
    filledPool.world.text 2 = none ∧ fullPool.world.freeCells < (9 + 7) / 8 ∧ (64 + 7) / 8 ≤ filledPool.world.freeCells ∧
    ((filledPool.world.text 1).map (·.cells) = some 1 ∧ fullPool.world.freeCells + 1 < (17 + 7) / 8 ∧
      (filledPool.world.text 1).map (·.chars) = some (List.replicate 8 0x41) ∧
      (16 + 7) / 8 ≤ fullPool.world.freeCells + 1) ∧
    (filledPool.world.text 1).map (·.uses) = some 0 ∧ (filledPool.world.text 255).map (·.uses) = some 2 ∧
    ((∀ y ∈ filledTable.world.services, 3 ∉ y.refs) ∧ (∀ n ∈ filledTable.world.notices, n.text ≠ 3) ∧
      namedTexts.world.text 3 = none) ∧
    ((namedTexts.world.text 1).map (·.uses) = some 4 ∧ (namedTexts.world.text 1).map (·.chars) ≠ some [0x42] ∧
      ∀ y ∈ namedTexts.world.services, (y.evaluate namedTexts.world.policy (namedTexts.after 0).env).2 = none) := by
  unfold Link.idle; decide

theorem witness_LifecycleSetTakesThePolicy : filledTable.link.idle ∧ (filledTable.world.services.map (·.code)).Nodup ∧
    ({ boardLead := max 1 (min 60 0), closeLead := min 300 60, departedHold := max 30 (min 600 120), cancelHold := min 60 10
       abandon := max 30 (min 240 120), changeDisplay := min 30 10 } : Lifecycle) ≠ filledTable.world.policy ∧
    ({ boardLead := max 1 (min 60 10), closeLead := min 300 60, departedHold := max 30 (min 600 120), cancelHold := min 60 10
       abandon := max 30 (min 240 120), changeDisplay := min 30 10 } : Lifecycle) = filledTable.world.policy := by
  unfold Link.idle; decide

/-- A NOTICE_PUT of notice 21 on text 1 (4.9, "a notice across the roll"). -/
def put21 (scope : Scope) (startMs endMs : Option Nat) : NoticePutReq :=
  { id := 21, text := 1, scope := scope, priority := 1, startMs := startMs, endMs := endMs, period := 0 }

/-- 23:40 with text 1, service 6 and notice 21 without start or end. -/
def lateEvening : State :=
  world (fun w => { w with notices := [notice 21], services := [service 6 1435 3 .planned] })
    (timed (hms 23 40 0) (texts [text 1 2] State.reset))

theorem witness_NoticesAreListedAndRemoved : lateEvening.link.idle ∧
    (∀ r ∈ [put21 .wall none none, put21 (.platforms 3) (some 5) (some 16200000), put21 (.service 6) none (some 16200000)],
      noticePutBad r = false ∧ lateEvening.world.noticeFinds r = true ∧ (r.startMs = none ∨ r.startMs ≠ r.endMs)) ∧
    (lateEvening.world.notices.length ≤ 32 ∧ lateEvening.world.notices.Pairwise fun a b => a.id < b.id) ∧
    lateEvening.world.notice 21 = some (notice 21) ∧
    ((notice 21).text = 1 ∧ (notice 21).scope = .wall ∧ (notice 21).priority = 1 ∧ (notice 21).startMs = none ∧
      (notice 21).endMs = none ∧ (notice 21).period = 0) ∧
    ¬ ((lateEvening.after 0).env.valid = true ∧ (91800000 : Int) ≤ (lateEvening.after 0).env.nms) ∧
    lateEvening.world.notice 20 = none := by
  unfold Link.idle; decide

/-- The refusals of NOTICE_PUT: each value out of range, what is not stored, a start equal to the end, a window that has passed, and
a list of 32. -/
theorem witness_NoticesAreListedAndRemoved_refusals :
    let full : State := world (fun w => { w with notices := (List.range 32).map fun i => notice (i + 1) }) lateEvening
    let offset (ms : Nat) : Int := ((ms : Int) - lateEvening.time.dayStart * 60000) % 86400000
    let e := (lateEvening.after 0).env
    let bad (r : NoticePutReq) := r.id = 0 ∨ r.text = 0 ∨ r.scope = .platforms 0#48 ∨ r.scope = .service 0 ∨ 3 < r.priority ∨
      (∃ ms ∈ r.startMs, 86399999 < ms) ∨ ∃ ms ∈ r.endMs, 86399999 < ms
    (lateEvening.link.idle ∧ full.link.idle) ∧
    (∀ r ∈ [{ put21 .wall none none with id := 0 }, { put21 .wall none none with text := 0 }, put21 (.platforms 0) none none,
      put21 (.service 0) none none, { put21 .wall none none with priority := 4 }, put21 .wall (some 86400000) none,
      put21 .wall none (some 86400000)], bad r) ∧
    (∀ r ∈ [put21 (.service 7) none none, put21 .wall (some 5) (some 5), put21 .wall (some 10800000) (some 85200000),
      put21 .wall none none, { put21 .wall none none with id := 33 }], ¬ bad r) ∧
    (lateEvening.world.text 1 ≠ none ∧ lateEvening.world.text 2 = none ∧ lateEvening.world.service 7 = none) ∧
    (e.valid = true ∧ offset 10800000 < offset 85200000 ∧ offset 85200000 ≤ e.nms ∧ ¬ offset 85200001 ≤ e.nms) ∧
    full.world.notice 33 = none ∧ 32 ≤ full.world.notices.length ∧ full.world.text 1 ≠ none := by
  unfold Link.idle; decide

/-- Notices whose end has come, whose start has come, whose start has not, and of a service that stays and one that is not there. -/
def announced : List Notice :=
  [{ notice 1 with endOff := some 86399999 }, { notice 2 with startOff := some 86400000, active := false },
    { notice 3 with startOff := some 90000000 }, { notice 4 with scope := .service 6168 }, { notice 5 with scope := .service 6 }]

/-- A minute event, a day roll and a second that is neither, a step each way over the boundary, a reference step, and the first TIME_SET. -/
theorem witness_NoticesAreListedAndRemoved_decided :
    let s (due : List Nat) (held : Bool) : State :=
      clock (fun t => { t with due := due }) (world (fun w => { w with notices := announced }) (beforeTheRoll 30000000 held))
    let p : State := world (fun w => { w with notices := announced }) (pulseOverTheRoll false)
    (announced.length ≤ 32 ∧ announced.Pairwise fun a b => a.id < b.id) ∧
    ((s [] false).time.validity = .setTime ∧ (s [] false).time.dayStart = 180 ∧ (s [] false).link.idle) ∧
    (∀ b ∈ [10800000000, 10860000000, 10801000000], (s [b] false).time.due = b :: []) ∧
    (10800000000 = 180 * 60000000 ∧ 10860000000 % 60000000 = 0 ∧ 10801000000 % 60000000 ≠ 0) ∧
    (ran (.timeSet 0 1 10800000) (s [] false)).time.station ≠ ((s [] false).time.runTo 0).station ∧
    (ran (.gapConfirmed refLine) p).time.station ≠ (p.time.runTo (ran (.gapConfirmed refLine) p).time.elapsed).station ∧
    State.reset.time.validity = .unsetTime ∧
    (let t := ran .secondEvent (s [10860000000] false)
    t.time.elapsed = 0 ∧ t.env.nms = 86370000 ∧ (∃ r ∈ t.world.services, r.code = 6168) ∧ ∃ n ∈ t.world.notices, n.id = 4) := by
  unfold Link.idle; decide

/-! ## Views and composition -/

/-- A window record of VIEW_SET. -/
def window (on : Bool) (first count : Nat) (source : SourceReq) (period : Nat) : WindowReq :=
  { enabled := on, firstRow := first, rowCount := count, source := source, period := period }

theorem witness_ViewSetReplacesTheWindows :
    let s := enabled 0 State.reset
    s.link.idle ∧ s.world.rowTotal 0 = 4 ∧
    (∀ q ∈ [window true 0 1 .clock 0, window true 1 3 (.departures 1 true false 0) 61, window false 0 1 .clock 0,
      window true 2 3 .clock 0, window true 0 2 .clock 0], (windowOf q).isSome = true) ∧
    (0 + 1 ≤ 4 ∧ 1 + 3 ≤ 4 ∧ (0 + 1 ≤ 1 ∨ 1 + 3 ≤ 0)) ∧ ¬ 2 + 3 ≤ 4 ∧ ¬ (0 + 2 ≤ 1 ∨ 1 + 3 ≤ 0) ∧
    (∀ k : Fin 4, ∀ x ∈ windowOf (window false 0 1 .clock 0), (s.world.view 0).windows[k].sameRecord x = true) ∧
    (∀ k : Fin 4, ∀ x ∈ windowOf (window true 0 1 .clock 0), ¬ (s.world.view 0).windows[k].sameRecord x = true) := by
  unfold Link.idle; decide

/-- The wall does not stage within the step, and a commit is wanted after it, or the Controller is not QUIET. -/
theorem witness_ViewSetReplacesTheWindows_composes :
    let s := enabled 0 State.reset
    let t := ran (.viewSet 0 1 1 (window true 0 1 .clock 0) (window false 0 1 .clock 0) (window false 0 1 .clock 0)
      (window false 0 1 .clock 0)) s
    s.world.commit.state = .quiet ∧ s.world.commit.settings.settle ≠ 0 ∧ (t.world.wall 0).lit = .dark ∧ t.world.ready 0 = true ∧
      (t.world.wall 0).restage = true ∧ (commit (fun c => { c with state := .staging }) s).world.commit.state ≠ .quiet := by
  decide

theorem witness_ViewSetReplacesTheWindows_refusals : State.reset.link.idle ∧ 0 = 0 ∧ 16 < 17 ∧
    (∀ r ∈ [window false 48 1 .clock 0, window false 0 0 .clock 0, window true 0 49 .clock 0],
      47 < r.firstRow ∨ r.rowCount = 0 ∨ 48 < r.rowCount) ∧
    ((0 : Platforms) = 0#48 ∧ 127 < 128 ∧ 48 < 49) ∧
    (window true 0 1 (.departures 0 true true 0) 0).source = .departures 0 true true 0 ∧
    (window true 0 1 (.unknown 5) 0).source = .unknown 5 := by
  unfold Link.idle; decide

/-- String 1 with a paged window of one source, the commit in a state. -/
def paged (state : CommitState) (source : Source) : State :=
  commit (fun c => { c with state := state })
    (world (fun w => w.setView 0 { w.view 0 with
      windows := (w.view 0).windows.set 2 { Window.reset with
        enabled := true, source := source, period := 2, pageTimer := some 2000000 } }) (enabled 0 State.reset))

/-- A changed horizon, the lengths of the targets, and a PLATFORM window alone in its row. -/
theorem witness_HorizonAndPagesTurn_composes :
    let s := paged .quiet (.platform 3)
    s.link.idle ∧ min 60 20 ≠ s.world.dueHorizon ∧ (∀ n, (s.world.view n).targets.length = s.world.rowTotal n) ∧
      s.world.commit.state = .quiet ∧ s.world.commit.settings.settle ≠ 0 ∧
      (∀ k : Fin 4, (s.world.view 0).windows[k].enabled = true ↔ k = 2) ∧
      (s.world.view 0).windows[(2 : Fin 4)].source = .platform 3 := by
  unfold Link.idle; decide

theorem witness_HorizonAndPagesTurn : State.reset.link.idle ∧ min 60 15 = State.reset.world.dueHorizon ∧
    (∀ state ∈ [CommitState.quiet, .settling], ∀ source ∈ [Source.clock, .ticker 1],
      ((paged state source).world.view 0).windows[(2 : Fin 4)].pageTimer = some 2000000) ∧
    Source.rotates .clock = false ∧ Source.rotates (.ticker 1) = true ∧
    (paged .settling (.ticker 1)).world.commit.state ≠ .quiet ∧
    ((paged .quiet (.ticker 1)).world.commit.state = .quiet ∧ (paged .quiet (.ticker 1)).world.commit.settings.settle ≠ 0) := by
  unfold Link.idle; decide

/-- String 1 with a clock in row 0, a fixed text in rows 1 and 2, and nothing in row 3. -/
def laidOut : World :=
  let w := (enabled 0 (texts [text 1 0] State.reset)).world
  w.setView 0 { w.view 0 with
    windows := ((w.view 0).windows.set 0 { Window.reset with enabled := true }).set 1 { Window.reset with
      enabled := true, firstRow := 1, rowCount := 2, source := .fixed 1 } }

theorem witness_AComposedStringShowsItsWindows :
    let v := laidOut.view 0
    let covers (k : Fin 4) (i : Nat) := v.windows[k].enabled = true ∧ v.windows[k].firstRow ≤ i ∧
      i < v.windows[k].firstRow + v.windows[k].rowCount
    laidOut.rowTotal 0 = 4 ∧ (∀ k, ¬ covers k 3) ∧ (covers 0 0 ∧ ∀ j, covers j 0 → j = 0) ∧
    (covers 1 1 ∧ ∀ j, covers j 1 → j = 1) ∧ (covers 1 2 ∧ ∀ j, covers j 2 → j = 1) ∧
    v.windows[(0 : Fin 4)].source = .clock ∧ v.windows[(1 : Fin 4)].source = .fixed 1 := by decide

/-- String 1 with platform 3 in rows 0 and 1, the departures of every platform in row 2 at page 2, and a ticker in row 3; a remark
on the first record, two notices of the second, two for the wall. -/
def departures : World :=
  let w := (enabled 0 (world (fun w => { w with notices := [
      { notice 4 with scope := .service 6, priority := 2 }, { notice 5 with scope := .service 6 }, notice 21,
      { notice 22 with scope := .platforms 5, priority := 0 }] })
    (table [{ service 5 30 3 .boarding with remark := some 1 }, service 6 35 3 .planned, service 7 40 0 .planned]
      (timed (hms 3 25 0) (texts [text 1 8] State.reset))))).world
  w.setView 0 { w.view 0 with
    windows := (((w.view 0).windows.set 0 { Window.reset with enabled := true, rowCount := 2, source := .platform 3 }).set 1
      { Window.reset with enabled := true, firstRow := 2, source := .departures 4 true true 1, pageIndex := 1 }).set 2
      { Window.reset with enabled := true, firstRow := 3, source := .ticker 4, pageIndex := 2 } }

theorem witness_AComposedStringShowsItsWindows_sources :
    let v := departures.view 0
    let covers (k : Fin 4) (i : Nat) := v.windows[k].enabled = true ∧ v.windows[k].firstRow ≤ i ∧
      i < v.windows[k].firstRow + v.windows[k].rowCount
    departures.rowTotal 0 = 4 ∧ (∀ i ∈ [0, 1], covers 0 i ∧ ∀ j, covers j i → j = 0) ∧
    (covers 1 2 ∧ ∀ j, covers j 2 → j = 1) ∧ (covers 2 3 ∧ ∀ j, covers j 3 → j = 2) ∧
    v.windows[(0 : Fin 4)].source = .platform 3 ∧ v.windows[(1 : Fin 4)].source = .departures 4 true true 1 ∧
    v.windows[(2 : Fin 4)].source = .ticker 4 := by decide

theorem witness_AComposedStringShowsItsWindows_remarks : departures.NoticesSound ∧ (∀ y ∈ departures.notices, y.priority ≤ 3) ∧
    (tickerEntries departures 4).map (·.id) = [22, 21] ∧
    (∃ r ∈ departures.services, r.remark = some 1) ∧
    (∃ r ∈ departures.services, r.remark = none ∧ ∃ y ∈ departures.notices, y.active = true ∧ y.scope = .service r.code ∧
      ∀ z ∈ departures.notices, z.active = true → z.scope = .service r.code →
        y.priority < z.priority ∨ y.priority = z.priority ∧ y.id ≤ z.id) ∧
    ∃ r ∈ departures.services, r.remark = none ∧ ∀ y ∈ departures.notices, ¬ (y.active = true ∧ y.scope = .service r.code) :=
  ⟨⟨by decide, by decide⟩, by decide, by decide, by decide, by decide, by decide⟩

/-! ## The wall commit -/

/-- SETTLING to its end at 200 ms: string 1 lit and dirty, string 2 FAULTED and dirty, string 3 with its second module LOST,
string 4 dark and not ready, the rest disabled. -/
def settling (batch : Bool) : State :=
  commit (fun c => { c with state := .settling, settleTimer := some 200000, batchOpen := batch })
    (wall 0 (fun x => { x with shown := [.empty, .clock (chars [0x31]), .empty, .empty] })
      (lit 0
        (channel 1 (fun c => { c with state := .faulted }) (wall 1 (fun x => { x with restage := true }) (lit 1
          (channel 2 (fun c => c.updateModule 2 fun m => { m with health := .lost, missed := 3 })
            (wall 2 (fun x => { x with restage := true }) (lit 2
              (channel 3 (fun c => { c with state := .faulted }) (enabled 3 State.reset))))))))))

theorem witness_SettlingEndsInASnapshot :
    let w := (settling false).world
    let rows (n : StringNo) := if (w.wall n).restage then List.range (w.rowTotal n) else w.dirty n
    let takesPart (n : StringNo) := (w.channel n).settings.enabled = true ∧ rows n ≠ [] ∧
      ((w.wall n).lit = .dark → w.ready n = true)
    let faulted (n : StringNo) := (w.channel n).state = .faulted
    let onLost (n : StringNo) := ∃ i ∈ rows n, (w.channel n).healthOf (i / (w.channel n).settings.rows + 1) = .lost
    (∀ b, (settling b).world.commit.settleTimer = some 200000 ∧ (settling b).world.commit.state = .settling ∧
      (settling b).world.commit.batchOpen = b) ∧
    (takesPart 0 ∧ ¬ faulted 0 ∧ ¬ onLost 0) ∧ (takesPart 1 ∧ faulted 1) ∧ (takesPart 2 ∧ ¬ faulted 2 ∧ onLost 2) ∧
    ¬ takesPart 3 ∧ ¬ takesPart 15 := by decide

/-- SETTLING with one lit string that is clean and one dark string that is not ready. -/
def nothingToStage : State :=
  commit (fun c => { c with state := .settling, settleTimer := some 200000 })
    (world (fun w => { w with tableSeq := 7 }) (lit 0 (channel 1 (fun c => { c with state := .faulted }) (enabled 1 State.reset))))

theorem witness_SettlingEndsInASnapshot_null : nothingToStage.world.commit.settleTimer = some 200000 ∧
    nothingToStage.world.commit.state = .settling ∧ nothingToStage.world.commit.batchOpen = false ∧
    nothingToStage.world.commit.settings.settle ≠ 0 ∧ (∀ n, (nothingToStage.world.wall n).part = .none) ∧
    (∀ n, (nothingToStage.world.channel n).settings.enabled = true →
      (nothingToStage.world.wall n).restage = false ∧ nothingToStage.world.dirty n = [] ∨
        (nothingToStage.world.wall n).lit = .dark ∧ nothingToStage.world.ready n = false) ∧
    ∃ n, (nothingToStage.world.channel n).settings.enabled = true := by decide

/-- SETTLING to its end with the FAULTED string 2 and string 3, with a LOST module, alone: both are to be staged, string 3 in a group. -/
def allFail (group : Group) (stagger : Nat) : State :=
  commit (fun c => { c with settings := { c.settings with stagger := stagger } })
    (channel 2 (fun c => { c with settings := { c.settings with group := group } })
      (channel 0 (fun c => { c with settings := { c.settings with enabled := false } }) (settling false)))

theorem witness_SettlingEndsInASnapshot_allFail : ∀ group ∈ [Group.a, .b], ∀ stagger ∈ [0, 40],
    let w := (allFail group stagger).world
    let rows (n : StringNo) := if (w.wall n).restage then List.range (w.rowTotal n) else w.dirty n
    let takesPart (n : StringNo) := (w.channel n).settings.enabled = true ∧ rows n ≠ [] ∧
      ((w.wall n).lit = .dark → w.ready n = true)
    let faulted (n : StringNo) := (w.channel n).state = .faulted
    let onLost (n : StringNo) := ∃ i ∈ rows n, (w.channel n).healthOf (i / (w.channel n).settings.rows + 1) = .lost
    w.commit.settleTimer = some 200000 ∧ w.commit.state = .settling ∧ w.commit.batchOpen = false ∧
    (∀ n, (w.wall n).part = .none) ∧ (takesPart 1 ∧ (w.channel 1).settings.group = .a) ∧
    (takesPart 2 ∧ (w.channel 2).settings.group = group) ∧ w.commit.settings.stagger = stagger ∧
    ∀ n, takesPart n → faulted n ∨ onLost n := by decide

/-- STAGING at its deadline: string 1 STAGING and string 2 STAGED in group B or A, the stagger 40 ms. -/
def atTheDeadline (group : Group) : State :=
  channel 1 (fun c => { c with settings := { c.settings with group := group } })
    (wall 1 (fun x => { x with part := .staged, staged := [stagedRow 0 true] }) (enabled 1 (staging 0 1 State.reset)))

/-- LATCH_A over: string 1 of group B is STAGED, string 2 of group B FAILED. -/
def afterTheStagger : State :=
  commit (fun c => { c with state := .latchA, staggerTimer := some 40000 })
    (channel 0 (fun c => { c with settings := { c.settings with group := .b } })
      (channel 1 (fun c => { c with settings := { c.settings with group := .b } })
        (wall 0 (fun x => { x with part := .staged, staged := [stagedRow 0 true] })
          (wall 1 (fun x => { x with part := .failed, cause := some .deadline }) (enabled 0 (enabled 1 State.reset))))))

theorem witness_DeadlineAndStaggerLatchTheWall : (∀ g ∈ [Group.a, .b],
      (atTheDeadline g).world.commit.deadlineTimer = some 1500000 ∧ (atTheDeadline g).world.commit.state = .staging ∧
      (∃ n, ((atTheDeadline g).world.wall n).part = .staging) ∧
      ((atTheDeadline g).world.channel 1).settings.group = g ∧ ((atTheDeadline g).world.wall 1).part = .staged) ∧
    (afterTheStagger.world.commit.staggerTimer = some 40000 ∧
      ∃ n, (afterTheStagger.world.channel n).settings.group = .b ∧
        ((afterTheStagger.world.wall n).part = .staged ∨ (afterTheStagger.world.wall n).part = .failed)) := by decide

/-- LATCH_B with a commit pulse on LAT1, a STAGED string 1 and a FAILED string 2, and perhaps a pulse on LAT2. -/
def latching (second : List Pulse) : State :=
  world (fun w => (({ w with latches := Vector.replicate 16 { pulses := [], ends := none } } : World).setLatch 0
      { pulses := [{ kind := .latch, ofCommit := true }], ends := some 1000 }).setLatch 1
      { pulses := second, ends := if second = [] then none else some 10000 })
    (commit (fun c => { c with state := .latchB, staggerTimer := none }) afterTheStagger)

theorem witness_TheLastPulseCompletesTheCommit :
    let next (s : State) : LatchLine := match (s.world.latch 0).pulses.tail with
      | [] => { pulses := [], ends := none }
      | p :: rest => { pulses := p :: rest, ends := some (1000 + if p.kind = .latch then 1000 else 10000) }
    let last (s : State) := s.world.commit.state = .latchB ∧ (next s).pulses.any (·.ofCommit) = false ∧
      ∀ m, m ≠ 0 → (s.world.latch m).pulses.any (·.ofCommit) = false
    ((latching []).world.latch 0).ends = some 1000 ∧ last (latching []) ∧
    ((latching []).world.commit.settings.settle ≠ 0 ∧ (latching []).world.commit.minutePending = false) ∧
    ((latching [{ kind := .blank, ofCommit := true }]).world.latch 0).ends = some 1000 ∧
    ¬ last (latching [{ kind := .blank, ofCommit := true }]) := by decide

/-- `latching` with two cues in PENDING_WALL, the one under the mark of the commit and the other under a later one. -/
def latchingCues : State :=
  unit (fun a => { a with available := false })
    (cues [cue 8 0 1 .pendingWall, { cue 9 1 1 .pendingWall with subject := 2, seq := 1 }] (latching []))

theorem witness_TheLastPulseCompletesTheCommit_cues : latchingCues.world.CuesSound ∧ latchingCues.world.au.available = false ∧
    (latchingCues.world.latch 0).ends = some 1000 ∧ latchingCues.world.commit.state = .latchB ∧
    (latchingCues.world.commit.settings.settle ≠ 0 ∧ latchingCues.world.commit.minutePending = false) ∧
    (∃ c ∈ latchingCues.world.cues, notEarlier latchingCues.world.commit.commitSeq c.seq = true) ∧
    ∃ c ∈ latchingCues.world.cues, notEarlier latchingCues.world.commit.commitSeq c.seq = false :=
  ⟨⟨by decide, by decide, by decide, by decide⟩, by decide, by decide, by decide, by decide, by decide, by decide⟩

/-- An open batch, its limit at 10 s, in SETTLING with the settle timer as given. -/
def batch (timer : Option Nat) : State :=
  commit (fun c => { c with state := .settling, settleTimer := timer, batchOpen := true, batchTimer := some 10000000 })
    State.reset

theorem witness_BatchesOpenAndClose : State.reset.link.idle ∧ State.reset.world.commit.batchOpen = false ∧
    (∀ t ∈ [none, some 200000], (batch t).link.idle ∧ (batch t).world.commit.batchOpen = true ∧
      (batch t).world.commit.batchTimer = some 10000000) ∧
    ¬ ((batch (some 200000)).world.commit.state = .settling ∧ (batch (some 200000)).world.commit.settleTimer = none) := by
  unfold Link.idle; decide

/-- A settled commit that waits for its batch, string 1 with a dirty row. -/
def heldBatch : State :=
  commit (fun c => { c with batchTimer := some 10000000, settleTimer := none }) (settling true)

theorem witness_BatchesOpenAndClose_held :
    let w := heldBatch.world
    let rows (n : StringNo) := if (w.wall n).restage then List.range (w.rowTotal n) else w.dirty n
    let stages (n : StringNo) := (w.channel n).settings.enabled = true ∧ rows n ≠ [] ∧
      ((w.wall n).lit = .dark → w.ready n = true) ∧ (w.channel n).state ≠ .faulted ∧
      ∀ i ∈ rows n, (w.channel n).healthOf (i / (w.channel n).settings.rows + 1) ≠ .lost
    heldBatch.link.idle ∧ w.commit.batchOpen = true ∧ w.commit.batchTimer = some 10000000 ∧
    (w.commit.state = .settling ∧ w.commit.settleTimer = none) ∧ stages 0 ∧ ¬ stages 2 := by
  unfold Link.idle; decide

theorem witness_SettingsAreTaken : State.reset.link.idle ∧ 6 ≤ CueKind.custom.code ∧ 3 < 4 ∧
    (∀ k ∈ [CueKind.platformChange, .delay, .approach, .boarding, .cancellation, .notice], k.code < 6) ∧
    (List.replicate 48 (1 : Zones)).length = 48 ∧ (List.replicate 47 (1 : Zones)).length ≠ 48 := by
  unfold Link.idle; decide

/-- The sweep at its expiry after string 16, two strings lit, SETTLING or QUIET. -/
def sweeping (state : CommitState) : State :=
  commit (fun c => { c with state := state, sweepPos := some 15 }) (lit 3 (lit 5 State.reset))

theorem witness_TheSweepRestagesTheNextLitString :
    let can (s : State) (n : StringNo) := (s.world.channel n).settings.enabled = true ∧ (s.world.wall n).lit = .lit
    let rank (s : State) (n : StringNo) : StringNo := match s.world.commit.sweepPos with
      | some p => n - p - 1
      | none => n
    State.reset.world.commit.sweepTimer = some 4000000 ∧ (∀ n, ¬ can State.reset n) ∧
    ∀ state ∈ [CommitState.quiet, .staging], (sweeping state).world.commit.sweepTimer = some 4000000 ∧
      (sweeping state).world.commit.state = state ∧ (sweeping state).world.commit.settings.settle ≠ 0 ∧
      can (sweeping state) 3 ∧ ∀ m, can (sweeping state) m → rank (sweeping state) 3 ≤ rank (sweeping state) m := by decide

/-! ## The string links -/

/-- A STRING_SET of string 1 with every value at an end of its range. -/
def setString1 (flow : FlowMode) : StringSetReq where
  string := 1
  enable := true
  divI := 2047
  divF := 7
  modules := 8
  rows := 6
  group := 1
  flow := flow.code
  pause := 0xF8
  resume := if flow = .pauseCodes then 0xF9 else 0xF8
  timeout := 4
  retries := 4

/-- String 1 lit, a link test running. -/
def testing : State := channel 0 (fun c => { c with test := some running }) (lit 0 State.reset)

theorem witness_StringSetResetsTheChannel : testing.link.idle ∧
    (∀ flow ∈ [FlowMode.none, .busyLine, .pauseCodes], (setString1 flow).string = (0 : StringNo).val + 1 ∧
      (setString1 flow).group = Group.code .b ∧ (setString1 flow).flow = flow.code ∧ 1 ≤ (setString1 flow).modules ∧
      (setString1 flow).modules ≤ 8 ∧ 1 ≤ (setString1 flow).rows ∧ (setString1 flow).rows ≤ 6 ∧ 4 ≤ (setString1 flow).divI ∧
      (setString1 flow).divI ≤ 2047 ∧ (setString1 flow).divF ≤ 7 ∧
      ¬ (flow = .pauseCodes ∧ (setString1 flow).pause = (setString1 flow).resume)) ∧
    (16 < 17 ∧ 8 < 9 ∧ 6 < 7 ∧ 3 < 4 ∧ 2047 < 2048 ∧ 7 < 8 ∧ 1 < 2 ∧ 2 < 3) ∧
    (∀ r ∈ [{ setString1 .pauseCodes with resume := 0xF8 }], r.flow = FlowMode.code .pauseCodes ∧ r.pause = r.resume) ∧
    (testing.world.channel 0).test.isSome = true ∧ (testing.world.wall 0).lit = .lit ∧
    (testing.world.commit.settings.settle ≠ 0 ∧ testing.world.commit.minutePending = false) := by
  unfold Link.idle; decide

/-- Channel 1 in a state with a POLL at the head of its queue. -/
def polling (state : ChanState) (flow : FlowMode) : State :=
  channel 0 (fun c => { c with
    state := state, queue := [{ frame := .poll 1, attempts := 1 }], pollTimer := some 2000000, flowStopped := true
    busy := true, settings := { c.settings with flow := flow } }) (enabled 0 State.reset)

/-- Channel 1 sending a POLL. -/
def sending : State :=
  channel 0 (fun c => { c with
    state := .sending, queue := [{ frame := .poll 1, attempts := 1 }]
    exchange := some { frame := .poll 1, attempt := 1, orphan := false, sendEnds := some 500, replyTimer := none, reply := [] } })
    (enabled 0 State.reset)

theorem witness_FramesAndLinkTestsRun :
    (∀ flow ∈ [FlowMode.none, .busyLine], ((polling .ready flow).world.channel 0).pollTimer = some 2000000 ∧
      ((polling .ready flow).world.channel 0).state = .ready ∧
      ((polling .ready flow).world.channel 0).queue = { frame := .poll 1, attempts := 1 } :: [] ∧
      ((polling .ready flow).world.channel 0).testing = false ∧
      ((polling .ready flow).world.channel 0).stopped = (flow == .busyLine)) ∧
    ((sending.world.channel 0).state = .sending ∧ ((sending.world.channel 0).exchange.bind (·.sendEnds)) = some 500) ∧
    (testing.link.idle ∧ (testing.world.channel 0).test = some (.running [] 9374)) ∧
    (testing.time.elapsed + 9373 < 9374 ∧ 9374 ≤ testing.time.elapsed + 9374 ∧ (received testPattern).length = 16 ∧
      (sending.world.channel 0).testing = false) ∧ (0 = 0 ∧ 16 < 17) ∧
    (sending.link.idle ∧ (sending.world.channel 0).test = none ∧ (sending.world.wall 0).part = .none) ∧
    ((staging 0 1 State.reset).link.idle ∧ ((staging 0 1 State.reset).world.wall 0).part ≠ .none) := by
  unfold Link.idle; decide

/-- Channel 1 HELD with a link test running, its queue as given. -/
def heldTest (flow : FlowMode) (queue : List QueuedFrame) : State :=
  channel 0 (fun c => { c with queue := queue, holdTimer := some 1000000, test := some running }) (polling .held flow)

theorem witness_FramesAndLinkTestsRun_held :
    (∀ flow ∈ [FlowMode.none, .busyLine, .pauseCodes], ∀ queue ∈ [[], [{ frame := Frame.poll 1, attempts := 1 }]],
      ((heldTest flow queue).world.channel 0).test = some (.running [] 9374) ∧ ((heldTest flow queue).world.channel 0).state = .held ∧
      ((heldTest flow queue).world.channel 0).queue = queue ∧
      ((heldTest flow queue).world.channel 0).stopped = (flow != .none)) ∧
    (heldTest .none []).link.idle ∧ ((heldTest .none []).world.channel 0).test ≠ none := by
  unfold Link.idle; decide

/-- Channel 1 waiting for the reply to a POLL in its first or last attempt, perhaps an orphan. -/
def waitingPoll (attempt : Nat) (orphan : Bool) : State :=
  channel 0 (waitingOn { awaiting (.poll 1) attempt with orphan := orphan }) (enabled 0 State.reset)

theorem witness_AFailedAttemptIsRetriedOrGivenUp :
    (∀ a ∈ [1, 2], ∀ o ∈ [false, true], ((waitingPoll a o).world.channel 0).state = .waiting ∧
      ((waitingPoll a o).world.channel 0).exchange = some { awaiting (.poll 1) a with orphan := o }) ∧
    (1 ≤ ((waitingPoll 1 false).world.channel 0).settings.retries ∧
      ((waitingPoll 2 false).world.channel 0).settings.retries < 2) ∧
    (((staging 0 2 State.reset).world.channel 0).state = .waiting ∧
      ((staging 0 2 State.reset).world.channel 0).exchange =
        some (awaiting (.stageRow 1 1 1 (.clock (chars [0x31]))) 2) ∧
      (staging 0 2 State.reset).world.commit.state = .staging ∧
      ((staging 0 2 State.reset).world.wall 0).part = .staging ∧
      ((staging 0 2 State.reset).world.wall 0).staged.any (fun y => y.row == 1) = true) ∧
    ((waitingPoll 1 false).world.channel 0).testing = false ∧
    (∀ m, Frame.stageRow 1 1 1 (.clock (chars [0x31])) ≠ .poll m) ∧
    ∀ m mr row rec, Frame.poll 1 ≠ .stageRow m mr row rec := by
  refine ⟨by decide, by decide, by decide, by decide, nofun, nofun⟩

/-- Channel 1 with so much received of the reply to its POLL. -/
def replying (reply : List Byte) : State :=
  channel 0 (fun c => { c with lastChar := some 7 })
    (channel 0 (waitingOn { awaiting (.poll 1) 1 with replyTimer := none, reply := reply }) (enabled 0 State.reset))

/-- The characters of a reply: none or one behind it, a wrong one, the last one with a wrong check. -/
theorem witness_AFailedAttemptIsRetriedOrGivenUp_characters :
    (∀ reply ∈ [[], [0x01#8, 0x82, 0x01, 0x00, 0x02, 0x00]], ((replying reply).world.channel 0).state = .waiting ∧
      ((replying reply).world.channel 0).testing = false ∧ ((replying reply).world.channel 0).settings.flow ≠ .pauseCodes ∧
      ((replying reply).world.channel 0).exchange = some { awaiting (.poll 1) 1 with replyTimer := none, reply := reply }) ∧
    (([0x01#8] : List Byte).take 4 = ([0x01#8, 0x82, 0x01, 0x00] : List Byte).take 1 ∧ 1 < 4 + 3) ∧
    ([0x02#8] : List Byte).take 4 ≠ ([0x01#8, 0x82, 0x01, 0x00] : List Byte).take 1 ∧
    checkBytes [0x01#8, 0x82, 0x01, 0x00, 0x02] ≠ [0x00#8, 0x00#8] ∧
    ((replying [0x01]).world.channel 0).lastChar = some 7 ∧
    (let c := (replying [0x01]).world.channel 0
     let found := 7 + 2 * (8 * c.settings.divI + c.settings.divF) / 4 + 1
     found = 1049 ∧ (replying [0x01]).time.elapsed + 1048 < found ∧ found ≤ (replying [0x01]).time.elapsed + 1049) := by decide

/-- An ACK_STAGE whose result is neither OK nor REJECT. -/
theorem witness_AFailedAttemptIsRetriedOrGivenUp_result :
    (Frame.stageRow 1 1 1 (.clock (chars [0x31]))).isStage = true ∧
    ([0x01#8, 0x81, 0x03, 0x00, 0x01, 0x01, 0x02, 0x00] ++ [0x00] : List Byte)[6]? = some 0x02#8 ∧ (0x02#8 : Byte) ≠ 0 ∧
    (0x02#8 : Byte) ≠ 1 := by decide

/-- In PAUSE_CODES too, no character of these replies is a flow code. -/
theorem witness_RepliesStageRowsAndKeepFlags_characters :
    ((waitingPoll 1 false).world.channel 0).testing = false ∧ (awaiting (.poll 1) 1).reply = [] ∧
    (0xF8#8 ∉ stringFrame 1 0x82 (le 1 2) ∧ 0xF9#8 ∉ stringFrame 1 0x82 (le 1 2)) ∧
    (0xF8#8 ∉ stringFrame 1 0x81 (le 1 1 ++ le 1 1 ++ le 1 0) ∧ 0xF9#8 ∉ stringFrame 1 0x81 (le 1 1 ++ le 1 1 ++ le 1 0)) := by
  decide

theorem witness_RepliesStageRowsAndKeepFlags : ((enabled 0 State.reset).world.channel 0).state ≠ .waiting ∧
    (((staging 0 1 State.reset).world.channel 0).state = .waiting ∧
      ((staging 0 1 State.reset).world.channel 0).exchange =
        some (awaiting (.stageRow 1 1 1 (.clock (chars [0x31]))) 1) ∧
      (awaiting (.stageRow 1 1 1 (.clock (chars [0x31]))) 1).orphan = false ∧
      (staging 0 1 State.reset).world.commit.state = .staging ∧
      ((staging 0 1 State.reset).world.wall 0).part = .staging ∧
      ((staging 0 1 State.reset).world.wall 0).staged.any (fun y => y.row == 1) = true) ∧
    (((waitingPoll 1 false).world.channel 0).exchange = some (awaiting (.poll 1) 1) ∧
      (waitingPoll 1 false).world.commit.settings.settle ≠ 0) := by decide

/-- String 1 stalls while it stages, or while nothing does. -/
def stalling (stages : Bool) : State :=
  channel 0 (fun c => { c with
    state := .held, holdTimer := some 1000000, exchange := none, queue := [{ frame := .poll 1, attempts := 0 }] })
    (if stages then staging 0 1 State.reset else enabled 0 State.reset)

/-- `stalling` with a link test. -/
def stallingTest (test : LinkTest) : State := channel 0 (fun c => { c with test := some test }) (stalling false)

/-- Channel 1 at the end of its stay in FAULTED. -/
def recovering : State :=
  channel 0 (fun c => { c with state := .faulted, faultTimer := some 5000000 }) (enabled 0 State.reset)

theorem witness_FlowHoldsStallsAndRecovers :
    (∀ state ∈ [ChanState.ready, .waiting], ((polling state .pauseCodes).world.channel 0).settings.flow = .pauseCodes ∧
      ((polling state .pauseCodes).world.channel 0).state ≠ .held) ∧
    (((polling .off .pauseCodes).world.channel 0).state = .off ∧
      ((polling .ready .none).world.channel 0).settings.flow ≠ .pauseCodes) ∧
    (∀ flow ∈ [FlowMode.busyLine, .pauseCodes], ((polling .held flow).world.channel 0).settings.flow = flow ∧
      ((polling .held flow).world.channel 0).state = .held ∧
      ((polling .held flow).world.channel 0).queue = { frame := .poll 1, attempts := 1 } :: [] ∧
      ((polling .held flow).world.channel 0).testing = false ∧ ((polling .held flow).world.channel 0).flowStopped = true) ∧
    (∀ b, ((stalling b).world.channel 0).test = none ∧ ((stalling b).world.channel 0).holdTimer = some 1000000 ∧
      ((stalling b).world.channel 0).state = .held ∧ (stalling b).world.commit.settings.settle ≠ 0 ∧
      (((stalling b).world.wall 0).part = .staging ∧ (stalling b).world.commit.state = .staging ∨
        ((stalling b).world.wall 0).part ≠ .staging ∧ (stalling b).world.commit.state ≠ .staging)) ∧
    (∀ test ∈ [LinkTest.waiting, running], ((stallingTest test).world.channel 0).test = some test ∧
      ((stallingTest test).world.channel 0).holdTimer = some 1000000 ∧ ((stallingTest test).world.channel 0).state = .held) ∧
    ((recovering.world.channel 0).faultTimer = some 5000000 ∧
      (recovering.world.channel 0).state = .faulted ∧ recovering.world.commit.settings.settle ≠ 0) := by decide

/-! ## Cues -/

/-- A CUE_PUT on text 1 in a mode. -/
def putCue (mode : CueMode) : CuePutReq where
  kind := 6
  subject := 1
  mode := mode.code
  zones := 3
  priority := 3
  line := if mode.isTriggered then 12 else 0
  delayS := if mode.isTriggered then 601 else 0
  periodS := if mode.isPeriodic then 29 else 0
  repeats := if mode.isPeriodic then 255 else 0
  leadMin := 0

/-- A CUE_PUT anchored on service 5220. -/
def putAnchored : CuePutReq :=
  { kind := 3, subject := 5220, mode := 4, zones := 3, priority := 0, line := 0, delayS := 0, periodS := 0, repeats := 0
    leadMin := 15 }

/-- Text 1 and service 5220 at 18:30 are stored, table_seq as given, the announcement unit AVAILABLE or not. -/
def ready (seq : Seq) (available : Bool) : State :=
  unit (fun a => { a with available := available })
    (world (fun w => { w with tableSeq := seq }) (evening [service 5220 930 9 .planned]))

theorem witness_CuePutMakesAHostCue :
    (∀ mode ∈ [CueMode.oneShot, .triggered, .periodic, .triggeredPeriodic], (ready 0 false).link.idle ∧
      (putCue mode).kind = CueKind.custom.code ∧ (putCue mode).mode = mode.code ∧
      cuePutBad (putCue mode) .custom mode = false) ∧
    (putAnchored.kind = CueKind.boarding.code ∧ putAnchored.mode = CueMode.code .anchored ∧
      cuePutBad putAnchored .boarding .anchored = false ∧ (ready 0 true).world.hasSubject .boarding 5220 = true ∧
      (ready 0 true).world.cueOf .boarding 5220 = none ∧
      (ready 0 true).world.anchorDue { cue 1 0 0 .armed with
        kind := .boarding, subject := 5220, mode := .anchored, leadMin := some 15 } ((ready 0 true).after 0).env = false) ∧
    (ready 0 false).world.hasSubject .custom 1 = true ∧ (ready 0 false).world.cueOf .custom 1 = none ∧
    (ready 0 false).world.freeSlot = some 0 ∧
    notEarlier (ready 1 true).world.commit.wallSeq (ready 1 true).world.tableSeq = false ∧
    notEarlier (ready 0 false).world.commit.wallSeq (ready 0 false).world.tableSeq = true ∧
    (ready 0 false).world.au.available = false := by
  unfold Link.idle; decide

theorem witness_CuePutMakesAHostCue_refusals :
    let put := putCue .triggered
    ((ready 0 true).link.idle ∧ 6 < { put with kind := 7 }.kind ∧ 4 < { put with mode := 5 }.mode) ∧
    (({ put with subject := 0 } : CuePutReq).subject = 0 ∧ ({ put with zones := 0 } : CuePutReq).zones = 0 ∧
      3 < ({ put with priority := 4 } : CuePutReq).priority ∧ ({ put with line := 0 } : CuePutReq).line = 0 ∧
      12 < ({ put with line := 13 } : CuePutReq).line ∧ ({ putAnchored with leadMin := 0 } : CuePutReq).leadMin = 0 ∧
      15 < ({ putAnchored with leadMin := 16 } : CuePutReq).leadMin) ∧
    (put.kind = CueKind.custom.code ∧ put.mode = CueMode.triggered.code ∧
      ¬ (put.subject = 0 ∨ put.zones = 0 ∨ 3 < put.priority ∨ put.line = 0 ∨ 12 < put.line)) ∧
    (∀ x ∈ State.reset.world.texts, x.index ≠ put.subject) ∧
    (∃ x ∈ (ready 0 true).world.texts, x.index = put.subject) ∧
    (∃ c ∈ (cues [cue 8 0 3 .queued] (ready 0 true)).world.cues, c.kind = .custom ∧ c.subject = put.subject) ∧
    ((∃ x ∈ (texts [text 33 0] fullCues).world.texts, x.index = { put with subject := 33 }.subject) ∧
      (∀ c ∈ (texts [text 33 0] fullCues).world.cues, ¬ (c.kind = .custom ∧ c.subject = 33)) ∧
      ∀ slot < 32, ∃ c ∈ (texts [text 33 0] fullCues).world.cues, c.slot = slot) := by
  unfold Link.idle; decide

/-- A queued cue and one that plays on channel 2. -/
def cueing : State :=
  play 1 .playing (cue 9 1 1 .playing) (some 120000000)
    (cues [cue 8 0 3 .queued, cue 9 1 1 .playing] (texts [text 1 0] State.reset))

theorem witness_CueCancelWithdrawsTheCue : cueing.link.idle ∧ cueing.world.cue 65535 = none ∧
    cueing.world.cue 8 = some (cue 8 0 3 .queued) ∧ (cue 8 0 3 .queued).state.isPending = true ∧
    ¬ ((cue 8 0 3 .queued).origin = .auto ∧ (cue 8 0 3 .queued).kind = .platformChange) ∧
    (cueing.world.cue 9 = some (cue 9 1 1 .playing) ∧ (cue 9 1 1 .playing).state.isPending = false ∧
      cueing.world.playOf 9 = some 1 ∧ cueing.world.au.channels[(1 : Fin 4)].play = some (playOf (cue 9 1 1 .playing)) ∧
      cueing.world.au.channels[(1 : Fin 4)].phase = .playing) := by
  unfold Link.idle; decide

/-- A cue at its timer in slot 31. -/
def timedCue (state : CueState) (mode : CueMode) : Cue :=
  { cue 9 31 1 state with mode := mode, timer := some 60000000, periodS := some 60, repeatsLeft := some 0 }

/-- The cue alone in the table, table_seq as given, the announcement unit UNAVAILABLE. -/
def fallingDue (c : Cue) (seq : Seq) : State :=
  unit (fun a => { a with available := false })
    (world (fun w => { w with tableSeq := seq }) (cues [c] (texts [text 1 0] State.reset)))

theorem witness_ACueFallsDueAtItsTimer : (fallingDue (timedCue .delaying .triggered) 0).world.cueAt (31 : Fin 32).val = some (timedCue .delaying .triggered) ∧
    (fallingDue (timedCue .delaying .triggered) 1).world.cueAt (31 : Fin 32).val = some (timedCue .delaying .triggered) ∧
    (timedCue .delaying .triggered).timer = some 60000000 ∧
    (timedCue .delaying .triggered).state = .delaying ∧
    notEarlier (fallingDue (timedCue .delaying .triggered) 0).world.commit.wallSeq 0 = true ∧
    notEarlier (fallingDue (timedCue .delaying .triggered) 1).world.commit.wallSeq 1 = false ∧
    (fallingDue (timedCue .delaying .triggered) 0).world.au.available = false := by decide

theorem witness_ACueFallsDueAtItsTimer_period : (fallingDue (timedCue .armed .periodic) 0).world.cueAt (31 : Fin 32).val = some (timedCue .armed .periodic) ∧
    (fallingDue (timedCue .armed .periodic) 1).world.cueAt (31 : Fin 32).val = some (timedCue .armed .periodic) ∧
    (timedCue .armed .periodic).timer = some 60000000 ∧
    (timedCue .armed .periodic).state = .armed ∧ (timedCue .armed .periodic).mode.isPeriodic = true := by decide

/-- A queued cue of a priority, queued at 5 s, so many of its changes taken. -/
def aging (priority aged : Nat) : Cue := { cue 8 0 priority .queued with queuedAt := some 5000000, aged := aged }

theorem witness_AnAgingCueRunsTheArbiter_effective : (∀ p ∈ [0, 1, 2, 3], (aging p 0).queuedAt = some 5000000 ∧
      (aging p 0).priority ≤ 3 ∧ (aging p 0).state = .queued) ∧ 5000000 ≤ 5000000 ∧
    ((aging 3 1).aged + 1 < (aging 3 1).priority ∧ (aging 3 1).nextAging = some 125000000) ∧
    (5000000 + 1 * 60000000 ≤ 65000000 ∧ 124999999 < 5000000 + (1 + 1) * 60000000) ∧
    ((aging 2 1).priority ≤ (aging 2 1).aged + 1 ∧ (aging 1 0).priority ≤ (aging 1 0).aged + 1) ∧
    ({ aging 3 0 with state := .playing } : Cue).state ≠ .queued := by decide

/-- A queued cue that ages in zone 2, in use on channel 1, and one in zone 1 that may start; perhaps channels 2 and 3 in use too, or
all four. -/
def arbiting (used : Nat) : State :=
  let busy (i : Fin 4) (s : State) := if i.val < used then
    play i .playing { cue 20 9 1 .playing with zones := 2 <<< i.val } (some 90000000) s else s
  busy 0 (busy 1 (busy 2 (busy 3 (cues
    [{ aging 3 0 with zones := 2, subject := 2 }, { cue 9 1 2 .queued with queuedAt := some 6000000 }] (texts [text 1 0] State.reset)))))

theorem witness_AnAgingCueRunsTheArbiter :
    let c : Cue := { cue 9 1 2 .queued with queuedAt := some 6000000 }
    (∀ used ∈ [1, 3, 4], (arbiting used).world.cueAt (0 : Fin 32).val = some { aging 3 0 with zones := 2, subject := 2 }) ∧
    ({ aging 3 0 with zones := 2, subject := 2 } : Cue).nextAging = some 65000000 ∧
    (∀ j : Fin 4, (arbiting 4).world.au.channels[j].phase ≠ .free) ∧
    (∀ used ∈ [1, 3], (arbiting used).world.au.available = true ∧
      (∀ d ∈ (arbiting used).world.cues, d.state = .queued → d.priority ≠ 0) ∧ c ∈ (arbiting used).world.cues ∧
      (arbiting used).world.eligible c = true ∧ (arbiting used).world.releaseCheck c = .starts ∧
      (∀ d ∈ (arbiting used).world.cues, d ≠ c → d.state = .queued → (arbiting used).world.eligible d = true → False) ∧
      ∀ d ∈ (arbiting used).world.cues, d ≠ c → d.state = .queued → (arbiting used).world.eligible d = false) ∧
    ((arbiting 3).world.au.channels[(3 : Fin 4)].phase = .free ∧
      (∀ j : Fin 4, j < 3 → (arbiting 3).world.au.channels[j].phase ≠ .free) ∧
      ∀ j : Fin 4, j ≠ 3 → (arbiting 3).world.au.channels[j].phase ≠ .free) ∧
    ((arbiting 1).world.au.channels[(1 : Fin 4)].phase = .free ∧
      (∀ j : Fin 4, j < 1 → (arbiting 1).world.au.channels[j].phase ≠ .free) ∧
      (arbiting 1).world.au.channels[(2 : Fin 4)].phase = .free) := by decide

theorem witness_AnAgingCueRunsTheArbiter_sound : ∀ used ∈ [1, 3],
    ((arbiting used).world.CuesSound ∧ (arbiting used).world.PlaysSound) ∧ ∀ d ∈ (arbiting used).world.cues, d.zones ≠ 0 := by
  have h : ∀ used ∈ [1, 3], ∀ i j : Fin 4, i ≠ j → ∀ p ∈ (arbiting used).world.au.channels[i].play,
      ∀ q ∈ (arbiting used).world.au.channels[j].play, p.zones &&& q.zones = 0#8 := by decide
  have hf : ∀ used ∈ [1, 3], ∀ i : Fin 4, (arbiting used).world.au.channels[i].phase = .free ↔
      (arbiting used).world.au.channels[i].play = none := by decide
  have hc : ∀ used ∈ [1, 3], ((arbiting used).world.cues.length ≤ 32 ∧
      (arbiting used).world.cues.Pairwise (fun a b => a.slot < b.slot) ∧ (∀ c ∈ (arbiting used).world.cues, c.slot < 32) ∧
      (arbiting used).world.cues.Pairwise fun a b => ¬ (a.kind = b.kind ∧ a.subject = b.subject)) ∧
      ∀ d ∈ (arbiting used).world.cues, d.zones ≠ 0 := by decide
  exact fun used hu => ⟨⟨⟨(hc used hu).1.1, (hc used hu).1.2.1, (hc used hu).1.2.2.1, (hc used hu).1.2.2.2⟩, hf used hu,
    fun i j hij p q hp hq => h used hu i j hij p hp q hq⟩, (hc used hu).2⟩

theorem witness_EveryStepKeepsTheCuesInOrder_shown :
    ((arbiting 1).world.TableSound ∧ (arbiting 1).world.ShownSound) ∧
    (arbiting 1).world.behind (arbiting 1).world.commit.wallSeq < 2 ^ 30 ∧
    (∀ c ∈ (arbiting 1).world.cues, (arbiting 1).world.behind c.seq < 2 ^ 31) ∧
    ∃ c ∈ (arbiting 1).world.cues, c.state = .queued := by
  have hp : ∀ i j : Fin 4, i ≠ j → ∀ p ∈ (arbiting 1).world.au.channels[i].play,
      ∀ q ∈ (arbiting 1).world.au.channels[j].play, p.handle ≠ q.handle := by decide
  have hc : ∀ i : Fin 4, ∀ p ∈ (arbiting 1).world.au.channels[i].play, ∀ c ∈ (arbiting 1).world.cues,
      c.handle ≠ p.handle := by decide
  exact ⟨⟨⟨by decide, by decide, by decide, by decide⟩, by decide, fun c _ _ => by
      have h : ∀ c ∈ (arbiting 1).world.cues, (arbiting 1).world.behind (arbiting 1).world.commit.wallSeq ≤
        (arbiting 1).world.behind c.seq := by decide
      exact h c ‹_›, by decide,
    fun i j hij p q h h' _ _ => hp i j hij p h q h', fun i p h _ c hm he => absurd he (hc i p h c hm),
    fun i p h _ c hm he => absurd he (hc i p h c hm)⟩, by decide, by decide, by decide⟩

/-- What becomes of the play of cue 20 that is preempted: the cue as given, or gone. -/
def preempting (phase : Phase) (q : Option Cue) : State :=
  play 2 phase { cue 20 5 2 .playing with zones := 3 } (some 90000000)
    (play 0 .stopping { cue 21 6 1 .playing with zones := 4 } (some 90000000)
      (cues ([{ aging 3 0 with zones := 4 }, { cue 9 1 0 .queued with queuedAt := some 6000000, zones := 6 }] ++ q.toList)
        (texts [text 1 0] State.reset)))

theorem witness_APriorityZeroCuePreempts :
    let q : Cue := { cue 20 5 2 .playing with zones := 3 }
    let c : Cue := { cue 9 1 0 .queued with queuedAt := some 6000000, zones := 6 }
    ∀ phase ∈ [Phase.starting, .playing],
      ∀ held ∈ [none, some q, some { q with subjectGone := true }, some { q with mode := .periodic, periodS := some 60 },
        some { q with preempted := true }, some { q with preempted := true, subjectGone := true }],
        let w := (preempting phase held).world
        w.cueAt (0 : Fin 32).val = some { aging 3 0 with zones := 4 } ∧
        ({ aging 3 0 with zones := 4 } : Cue).nextAging = some 65000000 ∧ w.au.available = true ∧
        (∃ j : Fin 4, w.au.channels[j].phase = .free) ∧ c ∈ w.cues ∧ c.state = .queued ∧ c.priority = 0 ∧
        c.zones &&& (playOf q).zones ≠ 0 ∧ w.au.channels[(2 : Fin 4)].play = some (playOf q) ∧
        w.au.channels[(2 : Fin 4)].phase = phase ∧ 2 ≤ (playOf q).priority ∧
        (∀ j : Fin 4, j ≠ 2 → ∀ p ∈ w.au.channels[j].play, c.zones &&& p.zones ≠ 0 → w.au.channels[j].phase = .stopping) ∧
        (∀ d ∈ w.cues, d ≠ c → d.state = .queued → d.priority ≠ 0 ∧ w.eligible d = false) ∧
        w.cue (playOf q).handle = held ∧
        ∀ x ∈ held, x.slot ≠ (0 : Fin 32).val ∧ x.state.isPending = false ∧ x.zones = (playOf q).zones ∧
          x.priority = (playOf q).priority ∧ (w.periodGone x = false) ∧ x.origin = .host := by decide

/-! ## The announcement link -/

/-- Channel 1 in a phase with the play of cue 9. -/
def onChannel (phase : Phase) (timer : Option Nat) : State :=
  play 0 phase (cue 9 1 1 .starting) timer (cues [cue 9 1 1 .starting] (texts [text 1 0] State.reset))

theorem witness_PlaysAreConfirmedAndTheUnitHeard :
    (∀ t ∈ [none, some 9], (onChannel .starting t).world.au.channels[(0 : Fin 4)].phase = .starting ∧
      (onChannel .starting t).world.au.channels[(0 : Fin 4)].timer = t) ∧
    (∀ p ∈ [Phase.starting, .stopping], (onChannel p none).world.au.available = true ∧
      (onChannel p none).world.playOf 9 = some 0 ∧ (onChannel p none).world.playOf 10 = none ∧
      (onChannel p none).world.au.channels[(0 : Fin 4)].play = some (playOf (cue 9 1 1 .starting)) ∧
      (onChannel p none).world.au.channels[(0 : Fin 4)].phase = p) ∧
    (∀ a, (unit (fun x => { x with available := a, statusTimer := some 5000000 }) State.reset).world.au.available = a ∧
      (unit (fun x => { x with available := a, statusTimer := some 5000000 }) State.reset).world.au.statusTimer = some 5000000 ∧
      ∀ c ∈ (unit (fun x => { x with available := a, statusTimer := some 5000000 }) State.reset).world.cues, c.state ≠ .queued) := by
  decide

/-- The unit UNAVAILABLE, channel 1 in a phase. -/
def unheard (phase : Phase) : State :=
  unit (fun a => { a with available := false, statusTimer := some 5000000 }) (onChannel phase none)

theorem witness_PlaysAreConfirmedAndTheUnitHeard_unavailable : ∀ p ∈ [Phase.starting, .stopping],
    (unheard p).world.au.available = false ∧ (∀ c ∈ (unheard p).world.cues, c.state ≠ .queued) ∧
    (unheard p).world.playOf 9 = some 0 ∧ (unheard p).world.playOf 10 = none ∧
    (unheard p).world.au.channels[(0 : Fin 4)].phase = p := by decide

theorem witness_AUnitFrameDoesWhatItsCommandDoes : State.reset.world.au.rx = .hunt ∧ (0x85 < 256 ∧ 255 < 256) ∧
    (le 2 65535 ++ le 1 255).length ≤ 1028 ∧
    (∀ kind ∈ [0x80, 0x86], ¬ (((kind = 0x81 ∨ kind = 0x83 ∨ kind = 0x84) ∧ 2 = 2) ∨ (kind = 0x82 ∧ 2 = 3) ∨
      (kind = 0x85 ∧ 2 = 1))) ∧
    (∀ length ∈ [1, 3], ¬ (((0x81 = 0x81 ∨ 0x81 = 0x83 ∨ 0x81 = 0x84) ∧ length = 2) ∨ (0x81 = 0x82 ∧ length = 3) ∨
      (0x81 = 0x85 ∧ length = 1))) ∧
    ([0x00#8, 0x00#8] : List Byte) ≠ checkBytes (le 1 0x81 ++ le 1 9 ++ le 2 2 ++ [0x01#8, 0x00#8]) ∧
    (1028 < 1029 ∧ 65535 < 65536) ∧ (∀ k ∈ [1, 8], 1 ≤ k ∧ k < (le 2 65535).length + 7) ∧
    (unit (fun a => { a with rx := .header [], rxAt := some 9 }) State.reset).world.au.rx ≠ .hunt ∧
    (unit (fun a => { a with rx := .header [], rxAt := some 9 }) State.reset).world.au.rxAt = some 9 ∧
    (State.reset.time.elapsed + 356 < 9 + 40000000 / 115200 + 1 ∧ 9 + 40000000 / 115200 + 1 ≤ State.reset.time.elapsed + 357) ∧
    State.reset.world.au.rxAt = none := by decide

/-- Channel 1 in a phase, so many start timeouts in a row. -/
def failing (phase : Phase) (timeouts : Nat) : State :=
  unit (fun a => { a with timeouts := timeouts }) (onChannel phase (some 2000000))

theorem witness_PlaysFailAndAreStopped :
    (∀ p ∈ [Phase.starting, .playing, .stopping], ∀ k ∈ [1, 2], (failing p k).world.au.channels[(0 : Fin 4)].phase = p ∧
      (failing p k).world.au.channels[(0 : Fin 4)].play = some (playOf (cue 9 1 1 .starting)) ∧
      ¬ ((playOf (cue 9 1 1 .starting)).origin = .auto ∧ (playOf (cue 9 1 1 .starting)).kind = .platformChange) ∧
      (∀ c ∈ (failing p k).world.cues, c.state ≠ .queued) ∧ (failing p k).world.au.available = true ∧
      (failing p k).world.playOf 9 = some 0 ∧ (failing p k).world.playOf 10 = none ∧
      (failing p k).world.au.channels[(0 : Fin 4)].timer = some 2000000 ∧ (failing p k).world.au.timeouts = k) := by decide

theorem witness_ADonePlayRecordsItsDelay : ∀ p ∈ [Phase.starting, .playing, .stopping], (failing p 0).world.au.available = true ∧
    (∀ c ∈ (failing p 0).world.cues, c.state ≠ .queued) ∧ (failing p 0).world.playOf 9 = some 0 ∧
    (failing p 0).world.playOf 10 = none ∧ (failing p 0).world.au.channels[(0 : Fin 4)].phase = p ∧
    (failing p 0).world.au.channels[(0 : Fin 4)].play = some (playOf (cue 9 1 1 .starting)) ∧
    ¬ ((playOf (cue 9 1 1 .starting)).origin = .auto ∧ (playOf (cue 9 1 1 .starting)).kind = .platformChange) := by decide

/-- An automatic PLATFORM_CHANGE cue of service 5220. -/
def changeCue (state : CueState) : Cue :=
  { cue 9 1 1 state with origin := .auto, kind := .platformChange, subject := 5220, oldPlatform := some 9 }

/-- Its play on channel 1 in a phase, at a table of the record it names and another; perhaps a cue QUEUED behind it. -/
def changePlay (phase : Phase) (behind : List Cue) : State :=
  play 0 phase (changeCue .starting) (some 2000000)
    (cues (changeCue .starting :: behind) (evening [service 4112 902 3 .closing,
      { service 5220 930 11 .planned with
        prev := some (9, .none), changeMs := some 0, attention := true, changeCue := some { handle := 9, heard := false } }]))

/-- A queued cue that ages, alone in the table. -/
def chosen (c : Cue) (s : State) : State := cues [{ c with slot := 0, state := .queued, queuedAt := some 5000000, priority := 3 }] s

/-- The text of the cue is gone, its record is back on the old platform, or its text was stored later than its mark. -/
theorem witness_AnAgingCueRunsTheArbiter_check :
    let gone := chosen (cue 8 0 3 .queued) State.reset
    let back := chosen (changeCue .queued) (evening [{ service 5220 930 9 .planned with changeCue := some { handle := 9, heard := false } }])
    let late := chosen (cue 8 0 3 .queued) (texts [{ text 1 0 with rev := 1 }] State.reset)
    (∀ s ∈ [gone, back, late], s.world.CuesSound ∧ (∀ i : Fin 4, s.world.au.channels[i].phase = .free) ∧
      s.world.au.available = true ∧ (∀ d ∈ s.world.cues, d.zones ≠ 0 ∧ d.priority ≠ 0 ∧ d.nextAging = some 65000000) ∧
      (∀ d ∈ s.world.cues, s.world.eligible d = true) ∧ s.world.cues.length = 1) ∧
    ((∀ c ∈ gone.world.cues, gone.world.releaseCheck c = .withdrawn ∧ c.kind ≠ .platformChange) ∧
      (∀ c ∈ back.world.cues, back.world.releaseCheck c = .withdrawn ∧ c.origin = .auto ∧ c.kind = .platformChange) ∧
      (back.world.services.map (·.code)).Nodup ∧
      (∀ c ∈ late.world.cues, late.world.releaseCheck c = .stale 1 ∧ c.state ≠ .pendingWall) ∧
      notEarlier late.world.commit.wallSeq 1 = false) ∧
    (later 1 0 = true ∧ later 0 0 = false) := by
  refine ⟨?_, by decide, by decide⟩
  intro s hs
  fin_cases hs <;> exact ⟨⟨by decide, by decide, by decide, by decide⟩, by decide, by decide, by decide, by decide, by decide⟩

theorem witness_PlaysFailAndAreStopped_change : ∀ p ∈ [Phase.starting, .playing], ∀ behind ∈ [[], [cue 10 2 3 .queued]],
    (changePlay p behind).world.au.channels[(0 : Fin 4)].play = some (playOf (changeCue .starting)) ∧
    ((playOf (changeCue .starting)).origin = .auto ∧ (playOf (changeCue .starting)).kind = .platformChange) ∧
    (changePlay p behind).world.au.channels[(0 : Fin 4)].phase = p ∧ (changePlay p behind).world.playOf 9 = some 0 ∧
    (changePlay p behind).world.au.channels[(0 : Fin 4)].timer = some 2000000 ∧
    ((changePlay p behind).world.services.map (·.code)).Nodup ∧
    ∃ r₀ ∈ (changePlay p behind).world.services, r₀.code = 5220 ∧ r₀.changeCue.map (·.handle) = some 9 := by decide

theorem witness_PlaysFailAndAreStopped_unavailable : ∀ p ∈ [Phase.starting, .stopping],
    (unheard p).world.au.available = false ∧ (∀ c ∈ (unheard p).world.cues, c.state ≠ .queued) ∧
    (unheard p).world.au.channels[(0 : Fin 4)].phase = p ∧ (unheard p).world.playOf 10 = none := by decide

theorem witness_ADonePlayRecordsItsDelay_change : ∀ p ∈ [Phase.starting, .playing],
    (∀ c ∈ (changePlay p []).world.cues, c.state ≠ .queued) ∧ (changePlay p []).world.playOf 9 = some 0 ∧
    (changePlay p []).world.au.channels[(0 : Fin 4)].play = some (playOf (changeCue .starting)) ∧
    (changePlay p []).world.au.channels[(0 : Fin 4)].phase = p ∧ ((changePlay p []).world.services.map (·.code)).Nodup ∧
    (∀ c ∈ (changePlay p []).world.cues, c.handle = 9 → (changePlay p []).world.cue 9 = some c ∧ c.mode = .oneShot) ∧
    ∃ r₀ ∈ (changePlay p []).world.services, r₀.code = 5220 ∧ r₀.changeCue.map (·.handle) = some 9 := by decide

/-! ## Dials -/

/-- Line 1 with a dial and a drive. -/
def dialAt (d : Nat) (drive : Drive) : DialLine :=
  { DialLine.reset with enabled := true, dial := d, drive := drive, timer := if drive = .quiet then none else some 500000 }

theorem witness_DialsAreEvaluatedAndPulse :
    let e := (setAt .free .none).env
    (dialAt 280 .driving).drive = .driving ∧ ((dialAt 280 .quiet).drive ≠ .driving ∧ e.valid = true ∧
      (dialAt 280 .quiet).enabled = true) ∧ State.reset.env.valid = false ∧
    (∀ x ∈ [(370, 0), (369, 1), (368, 2), (431, 659), (430, 660), (371, 719)],
      (((e.minute % 720 : Nat) : Int) - ((dialAt x.1 .quiet).dial : Nat)) % 720 = x.2) ∧
    (∀ drive ∈ [Drive.driving, .resting],
      (dial 0 (fun _ => dialAt 719 drive) State.reset).dials[(0 : Fin 4)].timer = some 500000 ∧
        (dial 0 (fun _ => dialAt 719 drive) State.reset).dials[(0 : Fin 4)].drive = drive) := by decide

theorem witness_DialRequestsSetTheLine : State.reset.link.idle ∧ 4 < 5 ∧ 719 < 720 ∧ 719 ≤ 719 ∧
    Impulse.ofCode 2 = none ∧ 4 = (3 : Fin 4).val + 1 := by
  unfold Link.idle; decide

end Sys2Proof.Tests
end

section
/-! The two lists of the departure picture, the Service Table and the Notice List, under the operations that leave them as they
stand: composition, the commit, the string links, the cues, the plays and the texts. -/

namespace Sys2Proof.Machine

/-- What the two lists are ordered and counted by: each record as the host gave it, each notice by its id. -/
def World.lists (w : World) : List Service × List Nat := (w.services.map Service.hostPart, w.notices.map (·.id))

@[simp] theorem World.lists_fold (w : World) : (w.services.map Service.hostPart, w.notices.map (·.id)) = w.lists := by rfl

@[simp] theorem World.lists_mk
    (services tableSeq texts freeCells notices policy views dueHorizon commit walls latches channels cues
    nextHandle cuePolicy zoneMap concourse au out agenda) :
    (World.mk services tableSeq texts freeCells notices policy views dueHorizon commit walls latches channels cues
      nextHandle cuePolicy zoneMap concourse au out agenda).lists = (services.map Service.hostPart, notices.map (·.id)) := by rfl

@[simp] theorem World.lists_ite (p : Prop) [Decidable p] (a b : World) :
    (if p then a else b).lists = if p then a.lists else b.lists := apply_ite ..

@[simp] theorem World.lists_foldl {α : Type} {f : World → α → World} (h : ∀ (w : World) x, (f w x).lists = w.lists)
    (l : List α) (w : World) :
    (l.foldl f w).lists = w.lists := by
  induction l generalizing w with
  | nil => rfl
  | cons x l ih => exact (ih _).trans (h w x)

@[simp] theorem World.lists_report (r : Report) (w : World) : (w.report r).lists = w.lists := by rfl
@[simp] theorem World.lists_push (t : Task) (w : World) : (w.push t).lists = w.lists := by rfl
@[simp] theorem World.lists_setWall (n : StringNo) (x : Wall) (w : World) : (w.setWall n x).lists = w.lists := by rfl
@[simp] theorem World.lists_setView (n : StringNo) (v : View) (w : World) : (w.setView n v).lists = w.lists := by rfl
@[simp] theorem World.lists_setLatch (n : StringNo) (l : LatchLine) (w : World) : (w.setLatch n l).lists = w.lists := by rfl
@[simp] theorem World.lists_setChannel (n : StringNo) (c : Channel) (w : World) : (w.setChannel n c).lists = w.lists := by rfl

@[simp] theorem World.lists_settle (skip : Bool) (e : Env) (w : World) : (w.settle skip e).lists = w.lists := by
  simp [World.settle]

@[simp] theorem World.lists_judge (e : Env) (w : World) : (w.judge e).lists = w.lists := by simp [World.judge]

@[simp] theorem World.lists_tell (changed mark : Bool) (e : Env) (w : World) : (w.tell changed mark e).lists = w.lists := by
  unfold World.tell
  split
  · split <;> simp
  · simp

@[simp] theorem World.lists_pulse (n : StringNo) (k : PulseKind) (c : Bool) (e : Env) (w : World) :
    (w.pulse n k c e).lists = w.lists := by rfl
@[simp] theorem World.lists_completeString (n : StringNo) (w : World) : (w.completeString n).lists = w.lists := by
  simp only [World.completeString]
  split <;> simp
@[simp] theorem World.lists_clearPart (n : StringNo) (w : World) : (w.clearPart n).lists = w.lists := by rfl

/-! ## Composition -/

@[simp] theorem World.lists_composeString (n : StringNo) (e : Env) (w : World) :
    (w.composeString n e).1.lists = w.lists := by rfl

@[simp] theorem World.lists_compose (f : Filter) (e : Env) (w : World) : (w.compose f e).1.lists = w.lists := by
  unfold World.compose
  generalize allStrings = l, false = changed
  induction l generalizing w changed with
  | nil => rfl
  | cons n l ih => exact ih (w.setView n _) _

@[simp] theorem World.lists_composeAll (e : Env) (w : World) : (w.composeAll e).1.lists = w.lists := by
  unfold World.composeAll
  generalize allStrings = l, false = changed
  induction l generalizing w changed with
  | nil => rfl
  | cons n l ih => exact ih (w.composeString n e).1 _

@[simp] theorem World.lists_composed (f : Filter) (mark : Bool) (e : Env) (w : World) :
    (w.composed f mark e).lists = w.lists := by
  simp [World.composed]

/-! ## The commit -/

@[simp] theorem World.lists_complete (null : Bool) (e : Env) (w : World) : (w.complete null e).lists = w.lists := by
  simp [World.complete]

@[simp] theorem World.lists_finishIfDone (e : Env) (w : World) : (w.finishIfDone e).lists = w.lists := by
  simp [World.finishIfDone]

@[simp] theorem World.lists_groupPulse (g : Group) (n : StringNo) (e : Env) (w : World) :
    (w.groupPulse g n e).lists = w.lists := by
  unfold World.groupPulse
  split
  · split <;> simp
  · rfl

@[simp] theorem World.lists_enterLatchB (e : Env) (w : World) : (w.enterLatchB e).lists = w.lists := by
  simp [World.enterLatchB]

@[simp] theorem World.lists_enterLatchA (e : Env) (w : World) : (w.enterLatchA e).lists = w.lists := by
  simp [World.enterLatchA]

@[simp] theorem World.lists_endStaging (e : Env) (w : World) : (w.endStaging e).lists = w.lists := by
  simp [World.endStaging]

@[simp] theorem World.lists_stageString (n : StringNo) (w : World) : (w.stageString n).lists = w.lists := by
  simp only [World.stageString]
  generalize stagedRows _ _ = staged
  split
  · rfl
  · split <;> simp

@[simp] theorem World.lists_beginStaging (e : Env) (w : World) : (w.beginStaging e).lists = w.lists := by
  simp [World.beginStaging]

@[simp] theorem World.lists_stageIfSettled (e : Env) (w : World) : (w.stageIfSettled e).lists = w.lists := by
  simp [World.stageIfSettled]

@[simp] theorem World.lists_markFailed (n : StringNo) (c : FailCause) (e : Env) (w : World) :
    (w.markFailed n c e).lists = w.lists := by
  simp [World.markFailed]

@[simp] theorem World.lists_fail (n : StringNo) (c : FailCause) (e : Env) (w : World) : (w.fail n c e).lists = w.lists := by
  simp [World.fail]

@[simp] theorem World.lists_acknowledge (n : StringNo) (row : Nat) (e : Env) (w : World) :
    (w.acknowledge n row e).lists = w.lists := by
  simp [World.acknowledge]

@[simp] theorem World.lists_failRow (n : StringNo) (row : Nat) (c : FailCause) (e : Env) (w : World) :
    (w.failRow n row c e).lists = w.lists := by
  simp [World.failRow]

@[simp] theorem World.lists_moduleLost (n : StringNo) (m : Nat) (e : Env) (w : World) :
    (w.moduleLost n m e).lists = w.lists := by
  simp [World.moduleLost]

@[simp] theorem World.lists_restageAll (n : StringNo) (e : Env) (w : World) : (w.restageAll n e).lists = w.lists := by
  simp [World.restageAll]

@[simp] theorem World.lists_deadline (e : Env) (w : World) : (w.deadline e).lists = w.lists := by
  simp [World.deadline]

@[simp] theorem World.lists_blankString (n : StringNo) (e : Env) (w : World) : (w.blankString n e).lists = w.lists := by
  simp [World.blankString]

@[simp] theorem World.lists_restartString (n : StringNo) (e : Env) (w : World) : (w.restartString n e).lists = w.lists := by
  simp [World.restartString]

@[simp] theorem World.lists_restartCommit (e : Env) (w : World) : (w.restartCommit e).lists = w.lists := by
  simp [World.restartCommit]

/-! ## Views, batches and the sweep -/

@[simp] theorem World.lists_applyView (n : StringNo) (a b c d : Window) (e : Env) (w : World) :
    (w.applyView n a b c d e).lists = w.lists := by
  simp [World.applyView]

@[simp] theorem World.lists_pageExpired (n : StringNo) (slot : Fin 4) (expiry : Nat) (e : Env) (w : World) :
    (w.pageExpired n slot expiry e).lists = w.lists := by
  simp [World.pageExpired]

@[simp] theorem World.lists_settleExpired (e : Env) (w : World) : (w.settleExpired e).lists = w.lists := by
  simp [World.settleExpired]

@[simp] theorem World.lists_pulseEnded (n : StringNo) (e : Env) (w : World) : (w.pulseEnded n e).lists = w.lists := by
  simp [World.pulseEnded]

@[simp] theorem World.lists_endBatch (e : Env) (w : World) : (w.endBatch e).lists = w.lists := by
  simp [World.endBatch]

@[simp] theorem World.lists_expireBatch (e : Env) (w : World) : (w.expireBatch e).lists = w.lists := by
  simp [World.expireBatch]

@[simp] theorem World.lists_sweep (expiry : Nat) (e : Env) (w : World) : (w.sweep expiry e).lists = w.lists := by
  simp only [World.sweep]
  split <;> simp

/-! ## The string links -/

@[simp] theorem World.lists_reportModule (n : StringNo) (m : Nat) (old : ModuleRec) (e : Env) (w : World) :
    (w.reportModule n m old e).lists = w.lists := by
  simp [World.reportModule]

@[simp] theorem World.lists_tellHealth (n : StringNo) (m : Nat) (old new : Health) (e : Env) (w : World) :
    (w.tellHealth n m old new e).lists = w.lists := by
  simp [World.tellHealth]

@[simp] theorem World.lists_giveUp (n : StringNo) (f : Frame) (e : Env) (w : World) : (w.giveUp n f e).lists = w.lists := by
  cases f <;> simp [World.giveUp]

@[simp] theorem World.lists_failAttempt (n : StringNo) (c : Channel) (e : Env) (w : World) :
    (w.failAttempt n c e).lists = w.lists := by
  unfold World.failAttempt
  split <;> simp

@[simp] theorem World.lists_voidAttempt (n : StringNo) (e : Env) (w : World) : (w.voidAttempt n e).lists = w.lists := by
  simp [World.voidAttempt]

@[simp] theorem World.lists_goodStage (n : StringNo) (m row : Nat) (reject orphan : Bool) (e : Env) (w : World) :
    (w.goodStage n m row reject orphan e).lists = w.lists := by
  simp [World.goodStage]

@[simp] theorem World.lists_goodStatus (n : StringNo) (m : Nat) (flags : ModuleFlags) (e : Env) (w : World) :
    (w.goodStatus n m flags e).lists = w.lists := by
  simp [World.goodStatus]

@[simp] theorem World.lists_ackStage (n : StringNo) (m moduleRow row : Nat) (reject : Bool) (e : Env) (w : World) :
    (w.ackStage n m moduleRow row reject e).lists = w.lists := by
  simp only [World.ackStage]
  split
  · split <;> simp
  · simp

@[simp] theorem World.lists_status (n : StringNo) (m : Nat) (flags : ModuleFlags) (e : Env) (w : World) :
    (w.status n m flags e).lists = w.lists := by
  simp only [World.status]
  split
  · split <;> simp
  · simp

@[simp] theorem World.lists_replyCharacter (n : StringNo) (x : Exchange) (c : RxChar) (e : Env) (w : World) :
    (w.replyCharacter n x c e).lists = w.lists := by
  simp only [World.replyCharacter]
  split
  · simp
  · simp
  · split <;> simp
  · simp

@[simp] theorem World.lists_lineCharacter (n : StringNo) (c : RxChar) (e : Env) (w : World) :
    (w.lineCharacter n c e).lists = w.lists := by
  simp only [World.lineCharacter]
  split
  · split <;> simp
  · simp

@[simp] theorem World.lists_dataCharacter (n : StringNo) (x : RxChar) (e : Env) (w : World) :
    (w.dataCharacter n x e).lists = w.lists := by
  simp [World.dataCharacter]

@[simp] theorem World.lists_replyTimeout (n : StringNo) (e : Env) (w : World) : (w.replyTimeout n e).lists = w.lists := by
  simp [World.replyTimeout]

@[simp] theorem World.lists_stall (n : StringNo) (e : Env) (w : World) : (w.stall n e).lists = w.lists := by
  simp [World.stall]

@[simp] theorem World.lists_recover (n : StringNo) (e : Env) (w : World) : (w.recover n e).lists = w.lists := by
  simp [World.recover]

@[simp] theorem World.lists_pauseCode (n : StringNo) (e : Env) (w : World) : (w.pauseCode n e).lists = w.lists := by
  simp [World.pauseCode]

@[simp] theorem World.lists_resumeCode (n : StringNo) (e : Env) (w : World) : (w.resumeCode n e).lists = w.lists := by
  simp [World.resumeCode]

@[simp] theorem World.lists_testResult (n : StringNo) (l : List RxChar) (e : Env) (w : World) :
    (w.testResult n l e).lists = w.lists := by
  simp [World.testResult]

@[simp] theorem World.lists_testCharacters (n : StringNo) (l : List RxChar) (e : Env) (w : World) :
    (w.testCharacters n l e).lists = w.lists := by
  simp only [World.testCharacters]
  split <;> simp

@[simp] theorem World.lists_testWaitOver (n : StringNo) (e : Env) (w : World) : (w.testWaitOver n e).lists = w.lists := by
  unfold World.testWaitOver
  split <;> simp

@[simp] theorem World.lists_applyString (n : StringNo) (x : StringSettings) (e : Env) (w : World) :
    (w.applyString n x e).lists = w.lists := by
  simp [World.applyString]

/-! ## Cues -/

theorem map_updateWhere {α β : Type} {g : α → β} {f : α → α} (h : ∀ x, g (f x) = g x) (test : α → Bool) (l : List α) :
    (updateWhere test f l).map g = l.map g := by
  simp only [updateWhere, List.map_map]
  refine List.map_congr_left fun x _ => ?_
  simp only [Function.comp]
  split
  · exact h x
  · rfl

@[simp] theorem World.lists_setCue (c : Cue) (w : World) : (w.setCue c).lists = w.lists := by rfl
@[simp] theorem World.lists_dropCue (slot : Nat) (w : World) : (w.dropCue slot).lists = w.lists := by rfl
@[simp] theorem World.lists_cueReport (event : CueEvent) (c : Cue) (e : Env) (w : World) :
    (w.cueReport event c e).lists = w.lists := by rfl
@[simp] theorem World.lists_droppedReport (event : CueEvent) (c : Cue) (e : Env) (w : World) :
    (w.droppedReport event c e).lists = w.lists := by rfl
@[simp] theorem World.lists_setPlay (i : Fin 4) (x : PlayChannel) (w : World) : (w.setPlay i x).lists = w.lists := by rfl
@[simp] theorem World.lists_auSend (f : AuFrame) (w : World) : (w.auSend f).lists = w.lists := by rfl
@[simp] theorem World.lists_raise (test : Cue → Bool) (rev : Seq) (w : World) : (w.raise test rev).lists = w.lists := by rfl

@[simp] theorem World.lists_tellEnded (o : Origin) (k : CueKind) (subject handle : Nat) (w : World) :
    (w.tellEnded o k subject handle).lists = w.lists := by
  simp [World.tellEnded]

@[simp] theorem World.lists_stopChannel (i : Fin 4) (e : Env) (w : World) : (w.stopChannel i e).lists = w.lists := by
  simp only [World.stopChannel]
  split <;> simp

@[simp] theorem World.lists_stopPlay (handle : Nat) (e : Env) (w : World) : (w.stopPlay handle e).lists = w.lists := by
  unfold World.stopPlay
  split <;> simp

@[simp] theorem World.lists_leave (event : CueEvent) (c : Cue) (e : Env) (w : World) : (w.leave event c e).lists = w.lists := by
  simp [World.leave]

@[simp] theorem World.lists_queueIfShown (c : Cue) (e : Env) (w : World) : (w.queueIfShown c e).lists = w.lists := by
  simp [World.queueIfShown]

@[simp] theorem World.lists_toWall (c : Cue) (e : Env) (w : World) : (w.toWall c e).lists = w.lists := by
  simp [World.toWall]

@[simp] theorem World.lists_fallDue (c : Cue) (e : Env) (w : World) : (w.fallDue c e).lists = w.lists := by
  simp [World.fallDue]

@[simp] theorem World.lists_releaseCues (e : Env) (w : World) : (w.releaseCues e).lists = w.lists := by
  simp [World.releaseCues]

@[simp] theorem World.lists_triggerCue (c : Cue) (stamp : Nat) (e : Env) (w : World) :
    (w.triggerCue c stamp e).lists = w.lists := by
  simp [World.triggerCue]

@[simp] theorem World.lists_edge (line : Nat) (approach : Option Nat) (stamp : Nat) (e : Env) (w : World) :
    (w.edge line approach stamp e).lists = w.lists := by
  simp only [World.edge]
  split <;> simp

@[simp] theorem World.lists_judgeAnchors (test : Cue → Bool) (e : Env) (w : World) :
    (w.judgeAnchors test e).lists = w.lists := by
  simp [World.judgeAnchors]

@[simp] theorem World.lists_anchors (e : Env) (w : World) : (w.anchors e).lists = w.lists := by
  simp [World.anchors]

/-- R65: the cue made for a platform change is no part of what orders the table. -/
@[simp] theorem World.lists_tellMade (code handle : Nat) (w : World) : (w.tellMade code handle).lists = w.lists := by
  exact Prod.ext (map_updateWhere (by intro _; rfl) ..) rfl

@[simp] theorem World.lists_seat (slot : Nat) (c : Cue) (e : Env) (w : World) : (w.seat slot c e).lists = w.lists := by
  simp only [World.seat, World.lists_ite, World.lists_tellMade, ite_self]
  split <;> simp

@[simp] theorem World.lists_makeCue (c : Cue) (e : Env) (w : World) : (w.makeCue c e).lists = w.lists := by
  simp only [World.makeCue]
  split
  · simp
  · split
    · simp
    · split
      · simp
      · split <;> simp

@[simp] theorem World.lists_makeIf (enabled : Bool) (c : Cue) (e : Env) (w : World) :
    (w.makeIf enabled c e).lists = w.lists := by
  simp [World.makeIf]

@[simp] theorem World.lists_cancellationCue (d : SvcChange) (e : Env) (w : World) :
    (w.cancellationCue d e).lists = w.lists := by
  simp [World.cancellationCue]

@[simp] theorem World.lists_platformCue (d : SvcChange) (e : Env) (w : World) : (w.platformCue d e).lists = w.lists := by
  simp [World.platformCue]

@[simp] theorem World.lists_delayCue (d : SvcChange) (e : Env) (w : World) : (w.delayCue d e).lists = w.lists := by
  simp [World.delayCue]

@[simp] theorem World.lists_boardingCues (d : SvcChange) (e : Env) (w : World) : (w.boardingCues d e).lists = w.lists := by
  simp [World.boardingCues]

@[simp] theorem World.lists_serviceCues (d : SvcChange) (e : Env) (w : World) : (w.serviceCues d e).lists = w.lists := by
  simp [World.serviceCues]

@[simp] theorem World.lists_subjectGone (test : Cue → Bool) (e : Env) (w : World) : (w.subjectGone test e).lists = w.lists := by
  simp [World.subjectGone]

@[simp] theorem World.lists_noticeCues (before : Option Notice) (n : Notice) (put : Bool) (e : Env) (w : World) :
    (w.noticeCues before n put e).lists = w.lists := by
  simp only [World.noticeCues]
  split
  · simp
  · split
    · split <;> simp
    · rfl

@[simp] theorem World.lists_delayExpired (slot : Nat) (e : Env) (w : World) : (w.delayExpired slot e).lists = w.lists := by
  unfold World.delayExpired
  split <;> simp

@[simp] theorem World.lists_periodExpired (slot : Nat) (e : Env) (w : World) : (w.periodExpired slot e).lists = w.lists := by
  unfold World.periodExpired
  split <;> simp

/-! ## Plays and the arbiter -/

@[simp] theorem World.lists_cueOver (handle : Nat) (e : Env) (w : World) : (w.cueOver handle e).lists = w.lists := by
  unfold World.cueOver
  split <;> simp

@[simp] theorem World.lists_cuePreempted (handle : Nat) (e : Env) (w : World) : (w.cuePreempted handle e).lists = w.lists := by
  unfold World.cuePreempted
  split <;> simp

@[simp] theorem World.lists_playReport (event : CueEvent) (p : Play) (e : Env) (w : World) :
    (w.playReport event p e).lists = w.lists := by rfl
@[simp] theorem World.lists_freeChannel (i : Fin 4) (w : World) : (w.freeChannel i).lists = w.lists := by rfl

@[simp] theorem World.lists_playFailed (event : CueEvent) (p : Play) (e : Env) (w : World) :
    (w.playFailed event p e).lists = w.lists := by
  simp [World.playFailed]

/-- R166: nor is the delay that was announced. -/
@[simp] theorem World.lists_delayHeard (p : Play) (w : World) : (w.delayHeard p).lists = w.lists := by
  unfold World.delayHeard
  split
  · exact Prod.ext (map_updateWhere (by intro _; rfl) ..) rfl
  · rfl

@[simp] theorem World.lists_preemptPlay (i : Fin 4) (e : Env) (w : World) : (w.preemptPlay i e).lists = w.lists := by
  unfold World.preemptPlay
  split
  · split <;> simp
  · rfl

@[simp] theorem World.lists_preempt (e : Env) (w : World) : (w.preempt e).lists = w.lists := by
  simp [World.preempt]

@[simp] theorem World.lists_startCue (i : Fin 4) (c : Cue) (e : Env) (w : World) : (w.startCue i c e).lists = w.lists := by rfl
@[simp] theorem World.lists_returnToWall (c : Cue) (rev : Seq) (w : World) : (w.returnToWall c rev).lists = w.lists := by rfl

@[simp] theorem World.lists_contestLoop (e : Env) (fuel : Nat) (w : World) : (World.contestLoop e fuel w).lists = w.lists := by
  induction fuel generalizing w with
  | zero => rfl
  | succ k ih =>
    unfold World.contestLoop
    split
    · split <;> simp [ih]
    · rfl

@[simp] theorem World.lists_arbitrate (e : Env) (w : World) : (w.arbitrate e).lists = w.lists := by
  simp [World.arbitrate]

@[simp] theorem World.lists_agingDue (slot : Nat) (e : Env) (w : World) : (w.agingDue slot e).lists = w.lists := by
  simp [World.agingDue]

/-! ## Frames from the announcement unit -/

@[simp] theorem World.lists_auReport (e : Env) (w : World) : (w.auReport e).lists = w.lists := by rfl
@[simp] theorem World.lists_badFrame (w : World) : w.badFrame.lists = w.lists := by rfl
@[simp] theorem World.lists_stray (w : World) : w.stray.lists = w.lists := by rfl
@[simp] theorem World.lists_setRx (rx : Receiver) (rxAt : Option Nat) (w : World) : (w.setRx rx rxAt).lists = w.lists := by rfl

@[simp] theorem World.lists_goodFrame (e : Env) (w : World) : (w.goodFrame e).lists = w.lists := by
  simp [World.goodFrame]

@[simp] theorem World.lists_confirm (i : Fin 4) (p : Play) (e : Env) (w : World) : (w.confirm i p e).lists = w.lists := by rfl

@[simp] theorem World.lists_auPlaying (handle : Nat) (e : Env) (w : World) : (w.auPlaying handle e).lists = w.lists := by
  simp only [World.auPlaying]
  split
  · split <;> simp
  · simp

@[simp] theorem World.lists_auRefused (handle : Nat) (e : Env) (w : World) : (w.auRefused handle e).lists = w.lists := by
  simp only [World.auRefused]
  split
  · split <;> simp
  · simp

@[simp] theorem World.lists_auStopped (handle : Nat) (e : Env) (w : World) : (w.auStopped handle e).lists = w.lists := by
  simp only [World.auStopped]
  split
  · split <;> simp
  · simp

@[simp] theorem World.lists_auStatus (faults : Byte) (e : Env) (w : World) : (w.auStatus faults e).lists = w.lists := by
  simp [World.auStatus]

@[simp] theorem World.lists_auGapFound (w : World) : w.auGapFound.lists = w.lists := by
  simp [World.auGapFound]

@[simp] theorem World.lists_startSent (i : Fin 4) (e : Env) (w : World) : (w.startSent i e).lists = w.lists := by
  simp [World.startSent]

@[simp] theorem World.lists_countTimeout (e : Env) (w : World) : (w.countTimeout e).lists = w.lists := by
  simp [World.countTimeout]

@[simp] theorem World.lists_startExpired (i : Fin 4) (e : Env) (w : World) : (w.startExpired i e).lists = w.lists := by
  unfold World.startExpired
  split <;> simp

@[simp] theorem World.lists_limitExpired (i : Fin 4) (e : Env) (w : World) : (w.limitExpired i e).lists = w.lists := by
  unfold World.limitExpired
  split <;> simp

@[simp] theorem World.lists_stopExpired (i : Fin 4) (w : World) : (w.stopExpired i).lists = w.lists := by
  simp [World.stopExpired]

@[simp] theorem World.lists_statusDue (expiry : Nat) (w : World) : (w.statusDue expiry).lists = w.lists := by rfl

@[simp] theorem World.lists_restartAnnounce (e : Env) (w : World) : (w.restartAnnounce e).lists = w.lists := by
  simp [World.restartAnnounce]

/-! ## Texts -/

@[simp] theorem World.lists_claim (refs : List Nat) (w : World) : (w.claim refs).lists = w.lists := by rfl
@[simp] theorem World.lists_release (refs : List Nat) (w : World) : (w.release refs).lists = w.lists := by rfl

@[simp] theorem World.lists_storeText (index : Nat) (chars : Chars) (e : Env) (w : World) :
    (w.storeText index chars e).lists = w.lists := by
  simp [World.storeText]

/-- R55: a stamp moves no record and no notice. -/
@[simp] theorem World.lists_stampReferrers (index : Nat) (seq : Seq) (e : Env) (w : World) :
    (w.stampReferrers index seq e).lists = w.lists := by
  simp only [World.stampReferrers, World.lists_raise, World.lists_foldl, World.lists_serviceCues, implies_true]
  exact Prod.ext (map_updateWhere (by intro _; rfl) ..) (map_updateWhere (by intro _; rfl) ..)

@[simp] theorem World.lists_replaceText (old : StoredText) (chars : Chars) (e : Env) (w : World) :
    (w.replaceText old chars e).lists = w.lists := by
  simp [World.replaceText]

end Sys2Proof.Machine
end

section
/-! Table order (R35) under a cause of the Service Table: what applying changes, retiring and evaluating do to the two lists, up to
the work of a whole step. -/

namespace Sys2Proof.Machine

/-! ## Table order (R35) but for the room -/

/-- R37: `eff_sm` is `sched_sm` plus the delay. -/
def Service.Timed (r : Service) : Prop := r.effSm = r.schedSm + r.delay.count

/-- Records in table order, no two with one code, each timed. -/
structure InTableOrder (l : List Service) : Prop where
  codes : (l.map (·.code)).Nodup
  order : l.Pairwise fun a b => a.before b = true
  timed : ∀ r ∈ l, r.Timed

/-- The codes of the table. -/
def World.codes (w : World) : List Nat := w.services.map (·.code)

theorem World.tableSound_iff (w : World) : w.TableSound ↔ w.services.length ≤ 128 ∧ InTableOrder w.services :=
  ⟨fun ⟨room, codes, order, timed⟩ => ⟨room, codes, order, timed⟩,
    fun ⟨room, codes, order, timed⟩ => ⟨room, codes, order, timed⟩⟩

theorem codes_hostParts (l : List Service) : (l.map Service.hostPart).map (·.code) = l.map (·.code) := List.map_map ..

/-- What a record has from the host says where it stands. -/
theorem inTableOrder_hostParts (l : List Service) : InTableOrder (l.map Service.hostPart) ↔ InTableOrder l := by
  constructor
  · rintro ⟨codes, order, timed⟩
    exact ⟨codes_hostParts l ▸ codes, List.pairwise_map.mp order, fun r hr => timed r.hostPart (List.mem_map_of_mem hr)⟩
  · rintro ⟨codes, order, timed⟩
    exact ⟨codes_hostParts l ▸ codes, List.pairwise_map.mpr order, List.forall_mem_map.mpr timed⟩

theorem InTableOrder.sublist {l l' : List Service} (h : InTableOrder l) (hs : l'.Sublist l) : InTableOrder l' :=
  ⟨h.codes.sublist (hs.map _), h.order.sublist hs, fun r hr => h.timed r (hs.subset hr)⟩

/-- Unique codes out of at most 128 make at most 128 records. -/
theorem InTableOrder.room {l : List Service} {codes : List Nat} (h : InTableOrder l) (hl : l.map (·.code) ⊆ codes)
    (hc : codes.length ≤ 128) : l.length ≤ 128 := by
  have := (List.subperm_of_subset h.codes hl).length_le
  rw [List.length_map] at this
  omega

theorem insertService_perm (r : Service) (l : List Service) : (insertService r l).Perm (r :: l) := by
  induction l with
  | nil => exact .refl _
  | cons x rest ih =>
    unfold insertService
    split
    · exact .refl _
    · exact (ih.cons x).trans (.swap ..)

/-- A timed record takes its place in a table without its code. -/
theorem InTableOrder.insert {l : List Service} {r : Service} (h : InTableOrder l) (hr : r.Timed)
    (hn : ∀ x ∈ l, x.code ≠ r.code) :
    InTableOrder (insertService r l) where
  codes := by
    rw [((insertService_perm r l).map _).nodup_iff, List.map_cons, List.nodup_cons]
    refine ⟨fun hm => ?_, h.codes⟩
    obtain ⟨x, hx, he⟩ := List.mem_map.mp hm
    exact hn x hx he
  order := insertService_order h.order hn
  timed x hx := by
    rcases mem_insertService.mp hx with rfl | hx
    · exact hr
    · exact h.timed x hx

theorem InTableOrder.store {w : World} {r : Service} (h : InTableOrder w.services) (hr : r.Timed) :
    InTableOrder (w.storeService r).services :=
  (h.sublist List.filter_sublist).insert hr fun _ hx => (mem_dropService.mp hx).2

theorem World.mem_codes {c : Nat} {w : World} : c ∈ w.codes ↔ ∃ r ∈ w.services, r.code = c := List.mem_map

theorem World.codes_storeService {r : Service} {w : World} : (w.storeService r).codes ⊆ r.code :: w.codes := by
  intro c hc
  obtain ⟨x, hx, rfl⟩ := World.mem_codes.mp hc
  rcases World.mem_storeService.mp hx with rfl | ⟨hx, _⟩
  · exact List.mem_cons_self
  · exact List.mem_cons_of_mem _ (World.mem_codes.mpr ⟨x, hx, rfl⟩)

/-! ## What only takes entries away -/

/-- No entry of the two lists is new: what is left keeps its place. -/
structure World.Thins (w w' : World) : Prop where
  services : (w'.services.map Service.hostPart).Sublist (w.services.map Service.hostPart)
  notices : (w'.notices.map (·.id)).Sublist (w.notices.map (·.id))

theorem World.Thins.of_lists {w w' : World} (h : w'.lists = w.lists) : w.Thins w' := by
  obtain ⟨hs, hn⟩ := Prod.mk.inj h
  exact ⟨hs ▸ .refl _, hn ▸ .refl _⟩

theorem World.Thins.trans {a b c : World} (h : a.Thins b) (k : b.Thins c) : a.Thins c :=
  ⟨k.services.trans h.services, k.notices.trans h.notices⟩

theorem World.thins_foldl {α : Type} {f : World → α → World} (h : ∀ (w : World) x, w.Thins (f w x)) (l : List α) (w : World) :
    w.Thins (l.foldl f w) := by
  induction l generalizing w with
  | nil => exact .of_lists rfl
  | cons x l ih => exact (h w x).trans (ih _)

theorem World.Thins.inTableOrder {w w' : World} (h : w.Thins w') (hw : InTableOrder w.services) : InTableOrder w'.services :=
  (inTableOrder_hostParts _).mp (((inTableOrder_hostParts _).mpr hw).sublist h.services)

theorem World.Thins.codes {w w' : World} (h : w.Thins w') : w'.codes ⊆ w.codes := by
  have := (h.services.map (·.code)).subset
  rwa [codes_hostParts, codes_hostParts] at this

/-! ## What keeps the lists sound -/

/-- A sound table stays sound, and a sound Notice List. -/
structure World.KeepsLists (w w' : World) : Prop where
  table : w.TableSound → w'.TableSound
  notices : w.NoticesSound → w'.NoticesSound

theorem World.KeepsLists.refl (w : World) : w.KeepsLists w := ⟨id, id⟩

theorem World.KeepsLists.trans {a b c : World} (h : a.KeepsLists b) (k : b.KeepsLists c) : a.KeepsLists c :=
  ⟨k.table ∘ h.table, k.notices ∘ h.notices⟩

theorem World.keepsLists_foldl {α : Type} {f : World → α → World} (h : ∀ (w : World) x, w.KeepsLists (f w x))
    (l : List α) (w : World) :
    w.KeepsLists (l.foldl f w) := by
  induction l generalizing w with
  | nil => exact .refl w
  | cons x l ih => exact (h w x).trans (ih _)

/-- Ids in ascending order, at most 32 of them. -/
theorem World.noticesSound_iff (w : World) :
    w.NoticesSound ↔ (w.notices.map (·.id)).length ≤ 32 ∧ (w.notices.map (·.id)).Pairwise (· < ·) := by
  rw [List.length_map, List.pairwise_map]
  exact ⟨fun ⟨room, order⟩ => ⟨room, order⟩, fun ⟨room, order⟩ => ⟨room, order⟩⟩

theorem World.noticesSound_sublist {w w' : World} (h : (w'.notices.map (·.id)).Sublist (w.notices.map (·.id)))
    (hw : w.NoticesSound) : w'.NoticesSound := by
  rw [World.noticesSound_iff] at hw ⊢
  exact ⟨h.length_le.trans hw.1, hw.2.sublist h⟩

theorem World.Thins.keepsLists {w w' : World} (h : w.Thins w') : w.KeepsLists w' where
  table hw := by
    rw [World.tableSound_iff] at hw ⊢
    exact ⟨by simpa using h.services.length_le.trans (by simpa using hw.1), h.inTableOrder hw.2⟩
  notices := World.noticesSound_sublist h.notices

theorem World.KeepsLists.of_lists {w w' : World} (h : w'.lists = w.lists) : w.KeepsLists w' :=
  (World.Thins.of_lists h).keepsLists

/-! ## Retirement (R50, R75) -/

theorem World.thins_removeNotice (why : Option NoticeEnd) (n : Notice) (e : Env) (w : World) :
    w.Thins (w.removeNotice why n e) := by
  have h : w.Thins { w with notices := w.notices.filter (·.id != n.id) } := ⟨.refl _, List.filter_sublist.map _⟩
  refine h.trans (.of_lists ?_)
  simp only [World.removeNotice, World.lists_subjectGone]
  split <;> rfl

/-- The table without the record of a code. -/
def World.without (code : Nat) (w : World) : World := { w with services := dropService code w.services }

theorem World.thins_without (code : Nat) (w : World) : w.Thins (w.without code) := ⟨List.filter_sublist.map _, .refl _⟩

theorem World.not_mem_codes_without (code : Nat) (w : World) : code ∉ (w.without code).codes := by
  intro h
  obtain ⟨x, hx, he⟩ := World.mem_codes.mp h
  exact (mem_dropService.mp hx).2 he

/-- A retirement takes at least its record from the table. -/
theorem World.without_thins_retire (r : Service) (why : RetireReason) (e : Env) (w : World) :
    (w.without r.code).Thins (w.retire r why e) := by
  refine .trans ?_ (.of_lists (World.lists_subjectGone ..))
  refine .trans ?_ (World.thins_foldl (fun w n => World.thins_removeNotice (some .subjectRetired) n e w) _ _)
  exact .of_lists rfl

theorem World.thins_retire (r : Service) (why : RetireReason) (e : Env) (w : World) : w.Thins (w.retire r why e) :=
  (World.thins_without r.code w).trans (World.without_thins_retire r why e w)

theorem World.retire_gone (r : Service) (why : RetireReason) (e : Env) (w : World) : r.code ∉ (w.retire r why e).codes :=
  fun h => World.not_mem_codes_without r.code w ((World.without_thins_retire r why e w).codes h)

/-- R50: what a cause's retirements do at one record. -/
def World.retireOne (ds : List SvcChange) (e : Env) (w : World) (r : Service) : World :=
  match retiredFor ds r.code with
  | some reason => w.retire r reason e
  | none => w

theorem World.thins_retireOne (ds : List SvcChange) (e : Env) (w : World) (r : Service) : w.Thins (w.retireOne ds e r) := by
  unfold World.retireOne
  split
  · exact World.thins_retire ..
  · exact .of_lists rfl

theorem World.retireOne_gone {ds : List SvcChange} {r : Service} (h : (retiredFor ds r.code).isSome = true) (e : Env)
    (w : World) :
    r.code ∉ (w.retireOne ds e r).codes := by
  obtain ⟨why, hw⟩ := Option.isSome_iff_exists.mp h
  simpa only [World.retireOne, hw] using World.retire_gone r why e w

theorem World.thins_retireAll (ds : List SvcChange) (e : Env) (w : World) : w.Thins (w.retireAll ds e) :=
  World.thins_foldl (World.thins_retireOne ds e) ..

/-- A code for which the cause gives a reason is gone. -/
theorem World.retireAll_gone {ds : List SvcChange} {c : Nat} (h : (retiredFor ds c).isSome = true) (e : Env) (w : World) :
    c ∉ (w.retireAll ds e).codes := by
  have fold (l : List Service) : ∀ w : World, c ∈ l.map (·.code) → c ∉ (l.foldl (World.retireOne ds e) w).codes := by
    induction l with
    | nil => simp
    | cons r l ih =>
      intro w hc
      rw [List.map_cons, List.mem_cons] at hc
      rcases hc with rfl | hc
      · exact fun hm => World.retireOne_gone h e w ((World.thins_foldl (World.thins_retireOne ds e) l _).codes hm)
      · exact ih _ hc
  exact fun hm => fold w.services w ((World.thins_retireAll ds e w).codes hm) hm

/-! ## One cause of the Service Table (R38, R39) -/

theorem World.recount_frame (d : SvcChange) (w : World) :
    (w.recount d).services = w.services ∧ (w.recount d).notices = w.notices := by
  unfold World.recount
  split <;> exact ⟨rfl, rfl⟩

theorem World.applyChange_services (d : SvcChange) (w : World) :
    (w.applyChange d).services = (w.storeService d.after).services := by
  simp only [World.applyChange, World.storeService, (World.recount_frame d w).1]

theorem World.applyAll_notices (ds : List SvcChange) (w : World) :
    (ds.foldl (fun w d => w.applyChange d) w).notices = w.notices := by
  induction ds generalizing w with
  | nil => rfl
  | cons d ds ih => exact (ih _).trans (World.recount_frame d w).2

theorem World.applyAll_inTableOrder {ds : List SvcChange} (hd : ∀ d ∈ ds, d.after.Timed) {w : World}
    (h : InTableOrder w.services) :
    InTableOrder (ds.foldl (fun w d => w.applyChange d) w).services := by
  induction ds generalizing w with
  | nil => exact h
  | cons d ds ih =>
    rw [List.forall_mem_cons] at hd
    refine ih hd.2 ?_
    rw [World.applyChange_services]
    exact h.store hd.1

theorem World.applyAll_codes (ds : List SvcChange) (w : World) :
    (ds.foldl (fun w d => w.applyChange d) w).codes ⊆ ds.map (·.after.code) ++ w.codes := by
  induction ds generalizing w with
  | nil => exact fun _ h => h
  | cons d ds ih =>
    have h : (w.applyChange d).codes ⊆ d.after.code :: w.codes := by
      rw [World.codes, World.applyChange_services]
      exact World.codes_storeService
    intro c hc
    have := @h c
    have := ih _ hc
    simp only [List.map_cons, List.cons_append, List.mem_cons, List.mem_append] at *
    tauto

/-- R38: a change stamped where it shows. -/
def SvcChange.stamped (seq : Seq) (d : SvcChange) : SvcChange :=
  if d.shows then { d with after := { d.after with rev := seq } } else d

theorem SvcChange.stamped_frame (seq : Seq) (d : SvcChange) :
    (d.stamped seq).after.code = d.after.code ∧ (d.stamped seq).retired = d.retired ∧
      ((d.stamped seq).after.Timed ↔ d.after.Timed) := by
  unfold SvcChange.stamped
  split <;> exact ⟨rfl, rfl, .rfl⟩

/-- The changes as a cause applies them: stamped where the picture changes. -/
def World.asStamped (ds : List SvcChange) (w : World) : List SvcChange :=
  if ds.any (·.tells) then ds.map (·.stamped (w.tableSeq + 1)) else ds

theorem retiredFor_stamped (seq : Seq) (ds : List SvcChange) (c : Nat) :
    retiredFor (ds.map (·.stamped seq)) c = retiredFor ds c := by
  simp only [retiredFor, List.find?_map, Function.comp_def, (SvcChange.stamped_frame seq _).1]
  cases ds.find? (·.after.code == c) with
  | none => rfl
  | some d => exact (SvcChange.stamped_frame seq d).2.1

/-- The table as a cause leaves it before it retires anything. -/
def World.applied (ds : List SvcChange) (w : World) : World :=
  (w.asStamped ds).foldl (fun w d => w.applyChange d)
    { w with tableSeq := if ds.any (·.tells) then w.tableSeq + 1 else w.tableSeq }

/-- A cause that changes the picture: the changes, then the cues, which leave the lists, then the retirements. -/
theorem World.cause_retires {ds : List SvcChange} {w : World} (h : ds.any (·.tells) = true) (e : Env) :
    ∃ v : World, v.lists = (w.applied ds).lists ∧ w.cause ds e = v.retireAll (w.asStamped ds) e := by
  simp only [World.applied, World.asStamped, World.cause, if_pos h]
  exact ⟨_, World.lists_foldl (fun w d => World.lists_serviceCues d e w) .., rfl⟩

theorem World.applied_thins_cause (ds : List SvcChange) (e : Env) (w : World) :
    (w.applied ds).Thins (w.cause ds e) := by
  by_cases h : ds.any (·.tells) = true
  · obtain ⟨v, hv, hc⟩ := World.cause_retires (w := w) h e
    exact hc ▸ (World.Thins.of_lists hv).trans (World.thins_retireAll ..)
  · simp only [World.applied, World.asStamped, World.cause, if_neg h]
    exact .of_lists rfl

theorem World.cause_gone {ds : List SvcChange} {d : SvcChange} {c : Nat} (hd : d ∈ ds) (ht : d.tells = true)
    (hr : (retiredFor ds c).isSome = true) (e : Env) (w : World) : c ∉ (w.cause ds e).codes := by
  have h : ds.any (·.tells) = true := List.any_eq_true.mpr ⟨d, hd, ht⟩
  obtain ⟨v, -, hc⟩ := World.cause_retires (w := w) h e
  rw [hc]
  refine World.retireAll_gone ?_ e v
  rwa [World.asStamped, if_pos h, retiredFor_stamped]

theorem World.mem_asStamped {d' : SvcChange} {ds : List SvcChange} {w : World} (h : d' ∈ w.asStamped ds) :
    ∃ d ∈ ds, d'.after.code = d.after.code ∧ (d'.after.Timed ↔ d.after.Timed) := by
  unfold World.asStamped at h
  split at h
  · obtain ⟨d, hd, rfl⟩ := List.mem_map.mp h
    obtain ⟨hc, -, ht⟩ := SvcChange.stamped_frame (w.tableSeq + 1) d
    exact ⟨d, hd, hc, ht⟩
  · exact ⟨d', h, rfl, .rfl⟩

@[simp] theorem World.lists_handOn (ds : List SvcChange) (e : Env) (w : World) :
    (w.handOn ds e).lists = (w.cause ds e).lists := by
  simp [World.handOn]

theorem World.applied_thins_handOn (ds : List SvcChange) (e : Env) (w : World) : (w.applied ds).Thins (w.handOn ds e) :=
  (World.applied_thins_cause ds e w).trans (.of_lists (World.lists_handOn ds e w))

/-- R50: what a cause retires is gone. -/
theorem World.handOn_gone {ds : List SvcChange} {d : SvcChange} {c : Nat} (hd : d ∈ ds) (ht : d.tells = true)
    (hr : (retiredFor ds c).isSome = true) (e : Env) (w : World) : c ∉ (w.handOn ds e).codes :=
  fun h => World.cause_gone hd ht hr e w ((World.Thins.of_lists (World.lists_handOn ds e w)).codes h)

/-- A cause brings no code but those of its changes. -/
theorem World.handOn_codes (ds : List SvcChange) (e : Env) (w : World) :
    (w.handOn ds e).codes ⊆ ds.map (·.after.code) ++ w.codes := by
  intro c hc
  have := World.applyAll_codes _ _ ((World.applied_thins_handOn ds e w).codes hc)
  refine List.mem_append.mpr ((List.mem_append.mp this).imp_left fun h => ?_)
  obtain ⟨d', hd', rfl⟩ := List.mem_map.mp h
  obtain ⟨d, hd, he, -⟩ := World.mem_asStamped hd'
  exact List.mem_map.mpr ⟨d, hd, he.symm⟩

/-- A cause keeps table order. -/
theorem World.handOn_inTableOrder {ds : List SvcChange} (hd : ∀ d ∈ ds, d.after.Timed) (e : Env) {w : World}
    (h : InTableOrder w.services) : InTableOrder (w.handOn ds e).services := by
  refine (World.applied_thins_handOn ds e w).inTableOrder (World.applyAll_inTableOrder (fun d' hd' => ?_) h)
  obtain ⟨d, hm, -, ht⟩ := World.mem_asStamped hd'
  exact ht.mpr (hd d hm)

/-- A cause adds no notice. -/
theorem World.handOn_notices (ds : List SvcChange) (e : Env) (w : World) :
    ((w.handOn ds e).notices.map (·.id)).Sublist (w.notices.map (·.id)) := by
  have h := (World.applied_thins_handOn ds e w).notices
  rwa [World.applied, World.applyAll_notices] at h

/-- A cause with timed changes keeps the lists sound where the codes it can leave number 128 at most. -/
theorem World.keepsLists_handOn_of_codes {ds : List SvcChange} {e : Env} {w : World}
    (hd : w.TableSound → ∀ d ∈ ds, d.after.Timed)
    (hc : w.TableSound → ∃ codes : List Nat, (w.handOn ds e).codes ⊆ codes ∧ codes.length ≤ 128) : w.KeepsLists (w.handOn ds e) where
  table h := by
    obtain ⟨codes, hsub, hlen⟩ := hc h
    have order := World.handOn_inTableOrder (hd h) e (w.tableSound_iff.mp h).2
    exact (World.tableSound_iff _).mpr ⟨order.room hsub hlen, order⟩
  notices := World.noticesSound_sublist (World.handOn_notices ds e w)

/-- A cause on records of the table keeps the lists sound. -/
theorem World.keepsLists_handOn {ds : List SvcChange} {w : World}
    (hd : w.TableSound → ∀ d ∈ ds, d.after.Timed ∧ d.after.code ∈ w.codes) (e : Env) : w.KeepsLists (w.handOn ds e) := by
  refine World.keepsLists_handOn_of_codes (fun h d hm => (hd h d hm).1) fun h => ⟨w.codes, fun c hc => ?_, ?_⟩
  · rcases List.mem_append.mp (World.handOn_codes ds e w hc) with hc | hc
    · obtain ⟨d, hm, rfl⟩ := List.mem_map.mp hc
      exact (hd h d hm).2
    · exact hc
  · simpa [World.codes] using h.room

/-! ## What an evaluation and the host leave of a record -/

/-- R62: a turn changes the state alone. -/
theorem Service.turn_hostPart (p : Lifecycle) (e : Env) (r : Service) : (r.turn p e).hostPart = r.hostPart := by
  unfold Service.turn
  simp only []
  split <;> (repeat' split) <;> rfl

theorem Service.evaluated_hostPart (p : Lifecycle) (e : Env) (r : Service) : (r.evaluated p e).hostPart = r.hostPart := by
  have turns : ((r.marks e).transitions p e).hostPart = (r.marks e).hostPart :=
    (Service.turn_hostPart p e _).trans (Service.turn_hostPart p e _)
  exact turns

/-- R61: an evaluation changes the lifecycle fields alone. -/
theorem evaluation_hostPart (p : Lifecycle) (e : Env) (before : Option Service) (r : Service) :
    (evaluation p e before r).after.hostPart = r.hostPart := by
  have h : (r.evaluate p e).1.hostPart = r.hostPart := by
    unfold Service.evaluate
    split
    · exact Service.evaluated_hostPart p e r
    · rfl
  simp only [evaluation]
  split <;> exact h

theorem evaluation_code (p : Lifecycle) (e : Env) (before : Option Service) (r : Service) :
    (evaluation p e before r).after.code = r.code := by
  have h := congrArg Service.code (evaluation_hostPart p e before r)
  exact h

theorem Service.Timed.of_hostPart {r r' : Service} (hr : r.Timed) (h : r'.hostPart = r.hostPart) : r'.Timed := by
  have : r.hostPart.Timed := hr
  rw [← h] at this
  exact this

theorem Service.Timed.evaluation {r : Service} (h : r.Timed) (p : Lifecycle) (e : Env) (before : Option Service) :
    (evaluation p e before r).after.Timed := h.of_hostPart (evaluation_hostPart p e before r)

theorem World.mem_of_service {w : World} {code : Nat} {r : Service}
    (h : w.service code = some r) : r ∈ w.services ∧ r.code = code :=
  ⟨List.mem_of_find?_eq_some h, by simpa using List.find?_some h⟩

/-- Evaluating a record with new contents as a cause of its own. -/
theorem World.keepsLists_handOn_evaluation {w : World} {new : Service} (hn : w.TableSound → new.Timed ∧ new.code ∈ w.codes)
    (p : Lifecycle) (before : Option Service) (e : Env) : w.KeepsLists (w.handOn [evaluation p e before new] e) := by
  refine World.keepsLists_handOn (fun h d hd => ?_) e
  obtain ⟨ht, hc⟩ := hn h
  obtain rfl := List.mem_singleton.mp hd
  exact ⟨ht.evaluation p e before, (evaluation_code p e before new).symm ▸ hc⟩

theorem World.keepsLists_evaluateOne (code : Nat) (e : Env) (w : World) : w.KeepsLists (w.evaluateOne code e) := by
  unfold World.evaluateOne
  split
  · rename_i r hr
    obtain ⟨hm, -⟩ := World.mem_of_service hr
    exact World.keepsLists_handOn_evaluation (fun h => ⟨h.effective r hm, List.mem_map_of_mem hm⟩) _ _ e
  · exact .refl w

/-- A timed record of the table with new contents keeps the lists sound. -/
theorem World.keepsLists_storeService {r : Service} {w : World} (hr : w.TableSound → r.Timed ∧ r.code ∈ w.codes) :
    w.KeepsLists (w.storeService r) where
  table h := by
    obtain ⟨ht, hc⟩ := hr h
    have order := (w.tableSound_iff.mp h).2.store ht
    refine (World.tableSound_iff _).mpr ⟨order.room (codes := w.codes) (fun c hm => ?_) (by simpa [World.codes] using h.room), order⟩
    exact (List.mem_cons.mp (World.codes_storeService hm)).elim (· ▸ hc) id
  notices h := ⟨h.room, h.order⟩

theorem World.keepsLists_changeNotice (code handle : Nat) (cue : Option ChangeCue) (e : Env) (w : World) :
    w.KeepsLists (w.changeNotice code handle cue e) := by
  unfold World.changeNotice
  split
  · rename_i r hr
    obtain ⟨hm, -⟩ := World.mem_of_service hr
    split
    · have hs : w.KeepsLists (w.storeService { r with changeCue := cue }) :=
        World.keepsLists_storeService fun h => ⟨h.effective r hm, World.mem_codes.mpr ⟨r, hm, rfl⟩⟩
      exact hs.trans (World.keepsLists_evaluateOne ..)
    · exact .refl w
  · exact .refl w

/-! ## The work of a step -/

theorem World.keepsLists_perform (t : Task) (e : Env) (w : World) : w.KeepsLists (w.perform t e) := by
  cases t with
  | stage => exact .of_lists (World.lists_stageIfSettled ..)
  | release => exact .of_lists (World.lists_releaseCues ..)
  | arbiter => exact .of_lists (World.lists_arbitrate ..)
  | cueEnded code handle => exact World.keepsLists_changeNotice ..

theorem World.keepsLists_drain (e : Env) (fuel : Nat) (w : World) : w.KeepsLists (World.drain e fuel w) := by
  induction fuel generalizing w with
  | zero => exact .refl w
  | succ k ih =>
    unfold World.drain
    split
    · exact .refl w
    · rename_i t rest _
      have h : w.KeepsLists { w with agenda := rest } := .of_lists rfl
      exact (h.trans (World.keepsLists_perform t e _)).trans (ih _)

theorem World.keepsLists_settleWork (e : Env) (w : World) : w.KeepsLists (w.settleWork e) := World.keepsLists_drain ..

theorem World.keepsLists_evaluateAll (e : Env) (w : World) : w.KeepsLists (w.evaluateAll e) :=
  World.keepsLists_foldl (fun w code => (World.keepsLists_evaluateOne code e w).trans (World.keepsLists_settleWork e _)) ..

theorem World.keepsLists_playDone (p : Play) (e : Env) (w : World) : w.KeepsLists (w.playDone p e) := by
  have h : w.KeepsLists ((w.delayHeard p).cueOver p.handle e) := .of_lists (by simp)
  simp only [World.playDone]
  refine .trans ?_ (.of_lists (World.lists_playReport ..))
  split
  · exact h.trans (World.keepsLists_changeNotice ..)
  · exact h

theorem World.keepsLists_auDone (handle : Nat) (e : Env) (w : World) : w.KeepsLists (w.auDone handle e) := by
  simp only [World.auDone]
  split
  · rename_i i p _
    split
    · refine .trans ?_ (World.keepsLists_playDone ..)
      exact .of_lists (by simp)
    · refine .trans ?_ (World.keepsLists_playDone ..)
      exact .of_lists (by simp)
    · exact .of_lists (by simp)
    · exact .of_lists (by simp)
  · exact .of_lists (by simp)

theorem World.keepsLists_auFrame (kind : Nat) (body : List Byte) (e : Env) (w : World) :
    w.KeepsLists (w.auFrame kind body e) := by
  have of {reply : Nat → Env → World → World} (h : ∀ handle, w.KeepsLists (reply handle e w)) :
      w.KeepsLists (match readHandle body with
        | some handle => reply handle e w
        | none => w.badFrame) := by
    split
    · exact h _
    · exact .of_lists rfl
  simp only [World.auFrame]
  split
  · exact of fun _ => .of_lists (by simp)
  · split <;> exact .of_lists (by simp)
  · exact of fun _ => World.keepsLists_auDone ..
  · exact of fun _ => .of_lists (by simp)
  · split <;> exact .of_lists (by simp)
  · exact .of_lists rfl

theorem World.keepsLists_auCharacter (c : RxChar) (e : Env) (w : World) : w.KeepsLists (w.auCharacter c e) := by
  simp only [World.auCharacter]
  split
  · exact .of_lists (by simp)
  · exact (World.KeepsLists.of_lists (World.lists_setRx ..)).trans (World.keepsLists_auFrame ..)
  · exact .of_lists (by simp)

end Sys2Proof.Machine
end

section
/-! The two lists under the host's requests and under the events that reach the tables: SERVICE_PUT to NOTICE_DROP, dispatch, the day
roll, the deciding of notices and RESTART. -/

namespace Sys2Proof.Machine

/-! ## Verdicts -/

/-- What a verdict leaves, where the request is taken. -/
def Verdict.Leaves {α : Type} (P : α → Prop) : Verdict α → Prop
  | .refuse _ _ => True
  | .take _ _ left => P left

theorem Verdict.leaves_map {α β : Type} {P : α → Prop} {Q : β → Prop} {f : α → β} (h : ∀ x, P x → Q (f x)) {v : Verdict α}
    (hv : v.Leaves P) : (v.map f).Leaves Q := by
  cases v with
  | refuse => trivial
  | take _ _ left => exact h left hv

/-! ## Requests of the Service Table -/

/-- A record with new contents under its code, timed where it was. -/
structure Service.Follows (old new : Service) : Prop where
  code : new.code = old.code
  timed : old.Timed → new.Timed

theorem Service.Follows.trans {a b c : Service} (h : a.Follows b) (k : b.Follows c) : a.Follows c :=
  ⟨k.code.trans h.code, k.timed ∘ h.timed⟩

theorem Service.follows_applyPlatform (platform : Nat) (side : Side) (e : Env) (r : Service) :
    r.Follows (r.applyPlatform platform side e) := by
  unfold Service.applyPlatform
  split
  · exact ⟨rfl, id⟩
  · split <;> exact ⟨rfl, id⟩

theorem Service.follows_applyDelay (n : Nat) (r : Service) : r.Follows (r.applyDelay n) := ⟨rfl, fun _ => rfl⟩

theorem Service.follows_applyTarget (t : Target) (e : Env) (r : Service) : r.Follows (r.applyTarget t e) := by
  cases t <;> exact ⟨rfl, id⟩

/-- R42: a replacement takes `eff_sm` from the new time and delay. -/
theorem follows_replacedService (r : ServicePutReq) (side : Side) (e : Env) (old : Service) :
    old.Follows (replacedService r side e old) := by
  refine .trans ?_ (Service.follows_applyPlatform ..)
  exact ⟨rfl, fun _ => rfl⟩

/-- R43: the parts of an amendment one after another. -/
theorem follows_amended (r : AmendReq) (e : Env) (old : Service) : old.Follows (amended r e old) := by
  unfold amended
  extract_lets delayed moved remarked
  have hdelayed : old.Follows delayed := by
    unfold delayed
    split
    · exact Service.follows_applyDelay ..
    · exact ⟨rfl, id⟩
  have hmoved : old.Follows moved := by
    unfold moved
    split
    · exact hdelayed.trans (Service.follows_applyPlatform ..)
    · exact hdelayed
  have hremarked : old.Follows remarked := by
    unfold remarked
    split
    · exact hmoved.trans ⟨rfl, id⟩
    · exact hmoved
  split
  · exact hremarked.trans (Service.follows_applyTarget ..)
  · exact hremarked

theorem newService_timed (r : ServicePutReq) (side : Side) (e : Env) : (newService r side e).Timed := rfl

/-- R41, R50: a record retired for space makes room for the one that the same cause inserts. -/
theorem World.keepsLists_handOn_for_space {w : World} {gone : Service} (hm : gone ∈ w.services) {d : SvcChange} (hd : d.after.Timed)
    (why : RetireReason) (e : Env) :
    w.KeepsLists (w.handOn [{ before := some gone, after := gone, retired := some why }, d] e) := by
  refine World.keepsLists_handOn_of_codes (by simpa using fun h => ⟨h.effective gone hm, hd⟩)
    fun h => ⟨d.after.code :: w.codes.erase gone.code, fun c hc => ?_, ?_⟩
  · have hne : c ≠ gone.code := by
      rintro rfl
      exact World.handOn_gone List.mem_cons_self (by simp [SvcChange.tells]) (by simp [retiredFor]) e w hc
    have := World.handOn_codes _ e w hc
    simp only [List.map_cons, List.map_nil, List.cons_append, List.nil_append, List.mem_cons] at this
    rcases this with hc | hc | hc
    · exact absurd hc hne
    · exact List.mem_cons.mpr (.inl hc)
    · exact List.mem_cons_of_mem _ ((List.mem_erase_of_ne hne).mpr hc)
  · have hc : gone.code ∈ w.codes := World.mem_codes.mpr ⟨gone, hm, rfl⟩
    have hroom := h.room
    have hpos := List.length_pos_of_mem hc
    rw [List.length_cons, List.length_erase_of_mem hc]
    simp only [World.codes, List.length_map] at hpos ⊢
    omega

/-- R41: a new record comes with room for it, or another is retired for space. -/
theorem World.insertNew_leaves {w : World} (r : ServicePutReq) (side : Side) (adjusted : Bool) (e : Env) :
    (w.insertNew r side adjusted e).Leaves w.KeepsLists := by
  have timed := (newService_timed r side e).evaluation w.policy e none
  simp only [World.insertNew]
  split
  · trivial
  · split
    · rename_i hroom
      simp only [Config.maxServices] at hroom
      refine World.keepsLists_handOn_of_codes (by simpa using fun _ => timed) fun _ => ⟨_, World.handOn_codes _ e w, ?_⟩
      simpa [World.codes] using hroom
    · split
      · rename_i gone hgone
        exact World.keepsLists_handOn_for_space (List.mem_of_find?_eq_some hgone) timed _ e
      · trivial

/-- A record of the table with new contents, evaluated as a cause of its own. -/
theorem World.keepsLists_handOn_of_follows {w : World} {code : Nat} {old new : Service} (ho : w.service code = some old)
    (hn : old.Follows new) (p : Lifecycle) (before : Option Service) (e : Env) :
    w.KeepsLists (w.handOn [evaluation p e before new] e) := by
  obtain ⟨hm, -⟩ := World.mem_of_service ho
  refine World.keepsLists_handOn_evaluation (fun h => ?_) p before e
  exact ⟨hn.timed (h.effective old hm), World.mem_codes.mpr ⟨old, hm, hn.code.symm⟩⟩

theorem World.replaceOld_leaves {w : World} {code : Nat} {old : Service} (ho : w.service code = some old) (r : ServicePutReq)
    (side : Side) (adjusted : Bool) (e : Env) : (w.replaceOld r side adjusted old e).Leaves w.KeepsLists := by
  simp only [World.replaceOld]
  split
  · trivial
  · split
    · trivial
    · exact World.keepsLists_handOn_of_follows ho (follows_replacedService r side e old) _ _ e

theorem World.servicePut_leaves (r : ServicePutReq) (e : Env) (w : World) : (w.servicePut r e).Leaves w.KeepsLists := by
  simp only [World.servicePut]
  split
  · trivial
  · split
    · trivial
    · split
      · trivial
      · split
        · exact World.insertNew_leaves ..
        · rename_i hold
          exact World.replaceOld_leaves hold ..

theorem World.applyAmend_leaves {w : World} {code : Nat} {old : Service} (ho : w.service code = some old)
    (r : AmendReq) (e : Env) :
    (w.applyAmend r old e).Leaves w.KeepsLists := by
  simp only [World.applyAmend]
  split
  · exact World.KeepsLists.refl w
  · exact World.keepsLists_handOn_of_follows ho (follows_amended r e old) _ _ e

theorem World.serviceAmend_leaves (r : AmendReq) (e : Env) (w : World) : (w.serviceAmend r e).Leaves w.KeepsLists := by
  unfold World.serviceAmend
  split
  · trivial
  · split
    · trivial
    · rename_i hold
      split
      · trivial
      · split
        · trivial
        · split
          · trivial
          · split
            · trivial
            · exact World.applyAmend_leaves hold r e

theorem World.serviceDrop_leaves (code : Nat) (e : Env) (w : World) : (w.serviceDrop code e).Leaves w.KeepsLists := by
  unfold World.serviceDrop
  split
  · trivial
  · split
    · trivial
    · rename_i r hr
      obtain ⟨hm, -⟩ := World.mem_of_service hr
      exact World.keepsLists_handOn (fun h => by simpa using ⟨h.effective r hm, World.mem_codes.mpr ⟨r, hm, rfl⟩⟩) e

theorem World.textPut_leaves (index : Nat) (chars : Chars) (e : Env) (w : World) :
    (w.textPut index chars e).Leaves w.KeepsLists := by
  unfold World.textPut
  split
  · trivial
  · split
    · split
      · trivial
      · exact World.KeepsLists.of_lists (World.lists_storeText ..)
    · split
      · trivial
      · split
        · exact World.KeepsLists.refl w
        · exact World.KeepsLists.of_lists (World.lists_replaceText ..)

theorem World.textDrop_leaves (index : Nat) (e : Env) (w : World) : (w.textDrop index e).Leaves w.KeepsLists := by
  unfold World.textDrop
  split
  · trivial
  · split
    · trivial
    · split
      · trivial
      · exact World.KeepsLists.of_lists (by simp)

/-- A cause of one change to each record of the table. -/
theorem World.keepsLists_handOn_map {f : Service → SvcChange} (hf : ∀ r : Service, r.Follows (f r).after) (e : Env)
    (w : World) :
    w.KeepsLists (w.handOn (w.services.map f) e) := by
  refine World.keepsLists_handOn (fun h d hd => ?_) e
  obtain ⟨r, hr, rfl⟩ := List.mem_map.mp hd
  exact ⟨(hf r).timed (h.effective r hr), World.mem_codes.mpr ⟨r, hr, (hf r).code.symm⟩⟩

theorem follows_evaluation (p : Lifecycle) (e : Env) (before : Option Service) (r : Service) :
    r.Follows (evaluation p e before r).after := ⟨evaluation_code p e before r, fun h => h.evaluation p e before⟩

theorem World.lifecycleSet_leaves (r : LifecycleReq) (e : Env) (w : World) : (w.lifecycleSet r e).Leaves w.KeepsLists := by
  simp only [World.lifecycleSet]
  split
  · exact World.KeepsLists.refl w
  · have hp : w.KeepsLists { w with policy := lifecycleOf r } := .of_lists rfl
    exact hp.trans (World.keepsLists_handOn_map (fun x => follows_evaluation (lifecycleOf r) e (some x) x) e _)

/-! ## Events of the Service Table -/

theorem World.keepsLists_dispatch (platform line stamp : Nat) (carried : Option Nat) (e : Env) (w : World) :
    w.KeepsLists (w.dispatch platform line stamp carried e) := by
  unfold World.dispatch
  split
  · rename_i r hr
    have hm : r ∈ w.services := List.mem_of_find?_eq_some hr
    exact World.keepsLists_handOn_evaluation (new := { r with state := .departed, departedMs := carried.map (· / 1000) })
      (fun h => ⟨h.effective r hm, World.mem_codes.mpr ⟨r, hm, rfl⟩⟩) _ _ e
  · exact .of_lists rfl

/-- R69: the roll takes the same day from `sched_sm` and `eff_sm`. -/
theorem follows_rolled (r : Service) : r.Follows (rolled r).after := by
  unfold rolled
  split
  · exact ⟨rfl, id⟩
  · refine ⟨rfl, fun h => ?_⟩
    simp only [Service.Timed] at h ⊢
    omega

theorem World.keepsLists_rollServices (e : Env) (w : World) : w.KeepsLists (w.rollServices e) :=
  World.keepsLists_handOn_map follows_rolled e w

/-! ## The Notice List (R71 to R75) -/

/-- A notice put in place of one with its id makes the list no longer. -/
theorem insertNotice_length {n : Notice} {l : List Notice} (ho : l.Pairwise fun a b => a.id < b.id) (h : ∃ x ∈ l, x.id = n.id) :
    (insertNotice n l).length = l.length := by
  induction l with
  | nil => simp at h
  | cons x rest ih =>
    obtain ⟨hx, hrest⟩ := List.pairwise_cons.mp ho
    obtain ⟨y, hy, he⟩ := h
    unfold insertNotice
    split
    · rename_i hlt
      rcases List.mem_cons.mp hy with rfl | hy
      · omega
      · have := hx y hy
        omega
    · split
      · rfl
      · rename_i hne
        rcases List.mem_cons.mp hy with rfl | hy
        · simp [he] at hne
        · simp [ih hrest ⟨y, hy, he⟩]

theorem insertNotice_length_le (n : Notice) (l : List Notice) : (insertNotice n l).length ≤ l.length + 1 := by
  induction l with
  | nil => simp [insertNotice]
  | cons x rest ih =>
    unfold insertNotice
    split
    · simp
    · split
      · simp
      · simpa using ih

/-- R71, R73: a notice is put in place of one with its id, or where there is room for one. -/
theorem World.noticesSound_insert {w : World} {n : Notice} (hw : w.NoticesSound)
    (h : w.notices.length < 32 ∨ ∃ x ∈ w.notices, x.id = n.id) :
    ({ w with notices := insertNotice n w.notices } : World).NoticesSound where
  room := by
    rcases h with h | h
    · exact (insertNotice_length_le n w.notices).trans h
    · exact (insertNotice_length hw.order h).trans_le hw.room
  order := insertNotice_order hw.order

/-- R73: a put leaves the lists with the notice, stamped or not, in its place. -/
theorem World.putNotice_lists (old : Option Notice) (n : Notice) (e : Env) (w : World) :
    ∃ m : Notice, m.id = n.id ∧ (w.putNotice old n e).lists = ({ w with notices := insertNotice m w.notices } : World).lists := by
  unfold World.putNotice
  extract_lets shows seq m released claimed put raised
  have hreleased : released.services = w.services ∧ released.notices = w.notices := by
    unfold released
    split <;> exact ⟨rfl, rfl⟩
  have hraised : raised.lists = put.lists := by
    unfold raised
    split <;> rfl
  refine ⟨m, by unfold m; split <;> rfl, ?_⟩
  rw [World.lists_composed, World.lists_noticeCues, hraised]
  simp only [put, claimed, World.lists_mk, World.claim, hreleased.1, hreleased.2]

theorem World.keepsLists_putNotice {w : World} {n : Notice} (h : w.notices.length < 32 ∨ ∃ x ∈ w.notices, x.id = n.id)
    (old : Option Notice) (e : Env) : w.KeepsLists (w.putNotice old n e) := by
  obtain ⟨m, hm, hl⟩ := World.putNotice_lists old n e w
  have put : w.KeepsLists { w with notices := insertNotice m w.notices } :=
    ⟨fun hw => ⟨hw.room, hw.codes, hw.order, hw.effective⟩, fun hw => World.noticesSound_insert hw (hm ▸ h)⟩
  exact put.trans (.of_lists hl)

theorem World.mem_of_notice {w : World} {id : Nat} {n : Notice} (h : w.notice id = some n) : n ∈ w.notices ∧ n.id = id :=
  ⟨List.mem_of_find?_eq_some h, by simpa using List.find?_some h⟩

theorem World.noticePut_leaves (r : NoticePutReq) (e : Env) (w : World) : (w.noticePut r e).Leaves w.KeepsLists := by
  simp only [World.noticePut]
  split
  · trivial
  · split
    · trivial
    · split
      · trivial
      · split
        · trivial
        · split
          · split
            · trivial
            · rename_i hroom
              exact World.keepsLists_putNotice (.inl (by simpa [Config.maxNotices] using hroom)) none e
          · rename_i o ho
            obtain ⟨hm, hid⟩ := World.mem_of_notice ho
            split
            · exact World.KeepsLists.refl w
            · exact World.keepsLists_putNotice (.inr ⟨o, hm, hid⟩) (some o) e

theorem World.noticeDrop_leaves (id : Nat) (e : Env) (w : World) : (w.noticeDrop id e).Leaves w.KeepsLists := by
  unfold World.noticeDrop
  split
  · trivial
  · split
    · trivial
    · rename_i n _
      have h : w.Thins { w with tableSeq := w.tableSeq + 1 } := .of_lists rfl
      exact (h.trans (World.thins_removeNotice none n e _)).keepsLists.trans (.of_lists (World.lists_composed ..))

/-- R74: deciding takes the ended notices away and moves no other. -/
theorem World.thins_decideNotices (e : Env) (w : World) : w.Thins (w.decideNotices e).1 := by
  simp only [World.decideNotices]
  split
  · exact .of_lists rfl
  · refine .trans ?_ (.of_lists (World.lists_foldl (fun w n => by simp) ..))
    refine .trans ?_ (World.thins_foldl (fun w n => World.thins_removeNotice (some .expired) n e w) _ _)
    exact .of_lists (Prod.ext rfl (map_updateWhere (by intro _; rfl) ..))

theorem World.keepsLists_noticeEvent (e : Env) (w : World) : w.KeepsLists (w.noticeEvent e) := by
  have h := (World.thins_decideNotices e w).keepsLists
  simp only [World.noticeEvent]
  split
  · exact h.trans (.of_lists (World.lists_composed ..))
  · exact h

theorem World.keepsLists_dayRoll (e : Env) (w : World) : w.KeepsLists (w.dayRoll e) := by
  simp only [World.dayRoll]
  refine .trans ?_ (.of_lists (World.lists_composed ..))
  refine .trans ?_ (World.thins_decideNotices e _).keepsLists
  refine (World.keepsLists_rollServices e w).trans (.of_lists (Prod.ext rfl ?_))
  exact List.map_map ..

/-! ## The other requests of the departure picture -/

theorem World.viewSet_leaves (string : Nat) (w0 w1 w2 w3 : WindowReq) (e : Env) (w : World) :
    (w.viewSet string w0 w1 w2 w3 e).Leaves w.KeepsLists := by
  simp only [World.viewSet]
  split
  · split
    · trivial
    · split
      · trivial
      · exact World.KeepsLists.of_lists (World.lists_applyView ..)
  · trivial

theorem World.composeSet_leaves (minutes : Nat) (e : Env) (w : World) : (w.composeSet minutes e).Leaves w.KeepsLists :=
  World.KeepsLists.of_lists (by simp)

theorem World.openBatch_leaves (e : Env) (w : World) : (w.openBatch e).Leaves w.KeepsLists := by
  unfold World.openBatch
  split
  · trivial
  · exact World.KeepsLists.of_lists rfl

theorem World.closeBatch_leaves (e : Env) (w : World) : (w.closeBatch e).Leaves w.KeepsLists := by
  unfold World.closeBatch
  split
  · exact World.KeepsLists.of_lists (World.lists_endBatch ..)
  · trivial

theorem World.commitSet_leaves (r : CommitSetReq) (e : Env) (w : World) : (w.commitSet r e).Leaves w.KeepsLists :=
  World.KeepsLists.of_lists (by simp)

theorem World.stringSet_leaves (r : StringSetReq) (e : Env) (w : World) : (w.stringSet r e).Leaves w.KeepsLists := by
  unfold World.stringSet
  split
  · split
    · trivial
    · split
      · trivial
      · exact World.KeepsLists.of_lists (World.lists_applyString ..)
  · trivial

theorem World.linkTest_leaves (string : Nat) (e : Env) (w : World) : (w.linkTest string e).Leaves w.KeepsLists := by
  unfold World.linkTest
  split
  · trivial
  · simp only []
    split
    · trivial
    · exact World.KeepsLists.of_lists rfl

theorem World.policySet_leaves (r : PolicyReq) (e : Env) (w : World) : (w.policySet r e).Leaves w.KeepsLists := by
  unfold World.policySet
  split
  · trivial
  · split
    · trivial
    · exact World.KeepsLists.of_lists rfl

theorem World.zoneMapSet_leaves (platforms : List Zones) (concourse : Zones) (e : Env) (w : World) :
    (w.zoneMapSet platforms concourse e).Leaves w.KeepsLists := by
  unfold World.zoneMapSet
  split
  · exact World.KeepsLists.of_lists rfl
  · trivial

theorem World.cuePut_leaves (r : CuePutReq) (e : Env) (w : World) : (w.cuePut r e).Leaves w.KeepsLists := by
  unfold World.cuePut
  split
  · split
    · trivial
    · split
      · trivial
      · split
        · trivial
        · split
          · trivial
          · exact World.KeepsLists.of_lists (World.lists_seat ..)
  · trivial

theorem World.cueCancel_leaves (handle : Nat) (e : Env) (w : World) : (w.cueCancel handle e).Leaves w.KeepsLists := by
  unfold World.cueCancel
  split
  · trivial
  · split
    · trivial
    · exact World.KeepsLists.of_lists (World.lists_leave ..)

theorem World.auSet_leaves (a b c : Nat) (e : Env) (w : World) : (w.auSet a b c e).Leaves w.KeepsLists :=
  World.KeepsLists.of_lists rfl

/-! ## RESTART and power on -/

theorem World.tableSound_of_empty {w : World} (h : w.services = []) : w.TableSound := by
  constructor <;> simp [h]

theorem World.noticesSound_of_empty {w : World} (h : w.notices = []) : w.NoticesSound := by
  constructor <;> simp [h]

theorem World.keepsLists_of_empty {w w' : World} (h : w'.lists = ([], [])) : w.KeepsLists w' := by
  obtain ⟨hs, hn⟩ := Prod.mk.inj h
  exact ⟨fun _ => World.tableSound_of_empty (List.map_eq_nil_iff.mp hs), fun _ => World.noticesSound_of_empty (List.map_eq_nil_iff.mp hn)⟩

theorem World.lists_restart (e : Env) (w : World) : (w.restart e).lists = ([], []) := by
  simp only [World.restart, World.lists_restartAnnounce, World.lists_tell, World.lists_composeAll, World.lists_restartCommit]
  rfl

end Sys2Proof.Machine
end

section
/-! The two lists under every command and every step, and the statement O6. -/

namespace Sys2Proof.Machine

/-! ## The whole state: events -/

/-- The two lists of the departure picture stay sound. -/
def State.KeepsLists (s t : State) : Prop := s.world.KeepsLists t.world

theorem State.KeepsLists.of_lists {s t : State} (h : t.world.lists = s.world.lists) :
    s.KeepsLists t := World.KeepsLists.of_lists h

theorem State.KeepsLists.refl (s : State) : s.KeepsLists s := World.KeepsLists.refl _

theorem State.KeepsLists.trans {a b c : State} (h : a.KeepsLists b) (k : b.KeepsLists c) : a.KeepsLists c :=
  World.KeepsLists.trans h k

theorem State.keepsLists_setTime (t : TimeBase) (s : State) : s.KeepsLists (s.setTime t) := .of_lists rfl

theorem State.keepsLists_setLine (i : LineNo) (m : Monitor) (s : State) : s.KeepsLists (s.setLine i m) := .of_lists rfl

theorem State.keepsLists_setLink (l : Link) (s : State) : s.KeepsLists (s.setLink l) := .of_lists rfl

theorem State.keepsLists_reports (l : List Report) (s : State) : s.KeepsLists (s.reports l) := .of_lists rfl

theorem State.keepsLists_begin (x : Nat) (s : State) : s.KeepsLists (s.begin x) := .of_lists rfl

theorem State.keepsLists_after (dt : Nat) (s : State) : s.KeepsLists (s.after dt) := .of_lists rfl

theorem State.keepsLists_close (s : State) : s.KeepsLists s.close := .of_lists rfl

theorem State.keepsLists_dial (i : Fin 4) (f : Env → DialLine → DialLine) (s : State) :
    s.KeepsLists (s.dial i f) := .of_lists rfl

theorem State.keepsLists_work {f : Env → World → World} (h : ∀ e w, World.KeepsLists w (f e w)) (s : State) :
    s.KeepsLists (s.work f) :=
  (h s.env s.world).trans (World.keepsLists_settleWork ..)

theorem State.keepsLists_work_of_lists {f : Env → World → World} (h : ∀ e w, (f e w).lists = w.lists) (s : State) :
    s.KeepsLists (s.work f) :=
  s.keepsLists_work fun e w => .of_lists (h e w)

/-- A run of operations that each keep the lists sound keeps them so. -/
theorem State.keepsLists_foldl {α : Type} {f : State → α → State} (h : ∀ (s : State) x, s.KeepsLists (f s x))
    (l : List α) (s : State) : s.KeepsLists (l.foldl f s) := by
  induction l generalizing s with
  | nil => exact .refl _
  | cons x l ih => exact (h s x).trans (ih _)

/-- A command that comes a span after the one before, does its work and is over. -/
theorem State.keepsLists_event {f : State → State} (h : ∀ s, State.KeepsLists s (f s)) (dt : Nat) (s : State) :
    s.KeepsLists (f (s.after dt)).close :=
  ((s.keepsLists_after dt).trans (h _)).trans (State.keepsLists_close _)

theorem State.keepsLists_expiry {f : Nat → State → State} (h : ∀ x s, State.KeepsLists s (f x s)) (timer : Option Nat)
    (s : State) : s.KeepsLists (s.expiry timer f) := by
  cases timer with
  | none => exact .refl _
  | some x => exact ((s.keepsLists_begin x).trans (h x _)).trans (State.keepsLists_close _)

theorem State.keepsLists_silence {f : Nat → State → State} (h : ∀ x s, State.KeepsLists s (f x s)) (dt : Nat)
    (timer : Option Nat) (s : State) : s.KeepsLists (s.silence dt timer f) := by
  unfold State.silence
  split
  · exact State.keepsLists_expiry h timer s
  · exact (s.keepsLists_after dt).trans (State.keepsLists_close _)

theorem State.keepsLists_dialsEvaluate (s : State) : s.KeepsLists s.dialsEvaluate :=
  State.keepsLists_foldl (fun s i => s.keepsLists_dial i _) ..

theorem State.keepsLists_minuteEvent (s : State) : s.KeepsLists s.minuteEvent :=
  (s.keepsLists_work_of_lists (World.lists_composed _ _)).trans <| (State.keepsLists_dialsEvaluate _).trans <|
    (State.keepsLists_work_of_lists World.lists_anchors _).trans (State.keepsLists_work World.keepsLists_noticeEvent _)

theorem State.keepsLists_stepped (r : Stepped) (s : State) : s.KeepsLists (s.stepped r) := by
  simp only [State.stepped]
  refine .trans ?_ (State.keepsLists_work_of_lists World.lists_anchors _)
  refine .trans ?_ (State.keepsLists_work World.keepsLists_noticeEvent _)
  refine .trans ?_ (State.keepsLists_dialsEvaluate _)
  refine .trans ?_ (State.keepsLists_work_of_lists (World.lists_composed _ _) _)
  refine .trans ?_ (State.keepsLists_work World.keepsLists_evaluateAll _)
  split
  · exact State.keepsLists_work World.keepsLists_dayRoll s
  · exact .refl _

theorem State.keepsLists_stepTime (t : TimeBase) (raised : Option Stepped) (s : State) :
    s.KeepsLists (s.stepTime t raised) := by
  cases raised with
  | none => exact s.keepsLists_setTime t
  | some r => exact (s.keepsLists_setTime t).trans (State.keepsLists_stepped r _)

theorem State.keepsLists_boundary (b : Nat) (s : State) : s.KeepsLists (s.boundary b) := by
  unfold State.boundary
  extract_lets rolled evaluated
  have hrolled : s.KeepsLists rolled := by
    unfold rolled
    split
    · simp only []
      split
      · exact (s.keepsLists_setTime _).trans (State.keepsLists_work World.keepsLists_dayRoll _)
      · exact s.keepsLists_setTime _
    · exact .refl _
  have hevaluated : s.KeepsLists evaluated := hrolled.trans (State.keepsLists_work World.keepsLists_evaluateAll rolled)
  split
  · exact hevaluated.trans evaluated.keepsLists_minuteEvent
  · exact hevaluated

theorem State.keepsLists_takeBoundary (s : State) : s.KeepsLists s.takeBoundary := by
  unfold State.takeBoundary
  split
  · exact .refl _
  · exact (s.keepsLists_setTime _).trans (State.keepsLists_boundary _ _)

theorem State.keepsLists_toBoundary (s : State) : s.KeepsLists s.toBoundary := by
  unfold State.toBoundary
  split
  · exact s.keepsLists_setTime _
  · exact .refl _

theorem State.keepsLists_deliverEdge (i : LineNo) (stamp : Nat) (s : State) : s.KeepsLists (s.deliverEdge i stamp) := by
  simp only [State.deliverEdge]
  refine .trans ?_ (State.keepsLists_work_of_lists (fun e w => World.lists_edge ..) _)
  split
  · exact State.keepsLists_work (fun e w => World.keepsLists_dispatch ..) s
  · exact .refl _

theorem State.keepsLists_acceptPulse (capture edge : Nat) (s : State) : s.KeepsLists (s.acceptPulse capture edge) := by
  have hcounted (t : TimeBase) (l : List Report) : s.KeepsLists ((s.setTime t).reports l) :=
    (s.keepsLists_setTime t).trans (State.keepsLists_reports ..)
  simp only [State.acceptPulse]
  split
  · split
    · exact (hcounted ..).trans (State.keepsLists_setTime ..)
    · refine .trans ?_ (State.keepsLists_reports ..)
      exact ((hcounted ..).trans (State.keepsLists_setTime ..)).trans (State.keepsLists_stepped ..)
  · exact hcounted ..

theorem State.keepsLists_hear (s : State) (i : LineNo) (x : Hearing) : s.KeepsLists (s.hear i x) := by
  simp only [State.hear]
  refine .trans ?_ (State.keepsLists_reports ..)
  refine (s.keepsLists_setLine i x.1).trans ?_
  split
  · exact State.keepsLists_deliverEdge ..
  · exact State.keepsLists_acceptPulse ..
  · exact .refl _

/-! ## The control link -/

/-- A request's owner leaves the lists sound. -/
def State.LeavesLists (s : State) (v : Verdict State) : Prop := v.Leaves s.KeepsLists

theorem State.ask_leaves {f : Env → World → Verdict World} (h : ∀ e w, (f e w).Leaves (World.KeepsLists w)) (s : State) :
    s.LeavesLists (s.ask f) := by
  unfold State.LeavesLists State.ask
  refine Verdict.leaves_map (fun w hw => ?_) (h s.env s.world)
  exact World.KeepsLists.trans hw (World.keepsLists_settleWork s.env w)

theorem State.timeSet_leaves (h : Nat) (s : State) : s.LeavesLists (s.timeSet h) := by
  unfold State.timeSet
  split
  · trivial
  · exact State.keepsLists_stepTime ..

theorem State.timeStep_leaves (minutes : Int) (s : State) : s.LeavesLists (s.timeStep minutes) := by
  unfold State.timeStep
  split
  · trivial
  · split
    · trivial
    · exact State.keepsLists_stepTime ..

theorem State.clockSet_leaves (mode d : Nat) (s : State) : s.LeavesLists (s.clockSet mode d) := by
  unfold State.clockSet
  split
  · trivial
  · split
    · trivial
    · split
      · trivial
      · exact (s.keepsLists_setTime _).trans (State.keepsLists_reports ..)

theorem State.lineSet_leaves (r : LineSetReq) (s : State) : s.LeavesLists (s.lineSet r) := by
  have keeps {α : Type} (v : Verdict α) (f : α → State) (h : ∀ x, s.KeepsLists (f x)) : s.LeavesLists (v.map f) := by
    cases v with
    | refuse => trivial
    | take _ _ x => exact h x
  unfold State.lineSet
  split
  · split
    · exact keeps _ _ fun _ => s.keepsLists_setLine ..
    · trivial
  · exact keeps _ _ fun _ => .of_lists rfl

theorem State.lineClear_leaves (set : Nat) (s : State) : s.LeavesLists (s.lineClear set) := by
  unfold State.lineClear
  split
  · trivial
  · refine State.keepsLists_foldl (fun s i => ?_) allLines s
    split
    · exact s.keepsLists_setLine ..
    · exact .refl _

theorem State.dialLineSet_leaves (line : Nat) (enable : Bool) (width : Nat) (s : State) :
    s.LeavesLists (s.dialLineSet line enable width) := by
  unfold State.dialLineSet
  split
  · trivial
  · exact State.keepsLists_dial ..

theorem State.dialSet_leaves (line dial polarity : Nat) (s : State) : s.LeavesLists (s.dialSet line dial polarity) := by
  unfold State.dialSet
  split
  · split
    · trivial
    · exact State.keepsLists_dial ..
  · trivial

theorem State.linkSet_leaves (rate : Nat) (s : State) : s.LeavesLists (s.linkSet rate) := by
  unfold State.linkSet
  split
  · exact s.keepsLists_setLink _
  · trivial

theorem State.ownQuery_leaves (subject parameter first count : Nat) (s : State) :
    s.LeavesLists (s.ownQuery subject parameter first count) := by
  unfold State.ownQuery
  split
  · trivial
  · exact State.KeepsLists.refl s

theorem State.keepsLists_restart (s : State) : s.KeepsLists s.restart := by
  have hwork := State.keepsLists_work (fun e w => World.keepsLists_of_empty (World.lists_restart e w)) s
  have hlines := State.keepsLists_foldl (fun s i => s.keepsLists_setLine i s.lines[i].restart) allLines (s.work World.restart)
  exact (hwork.trans hlines).trans (.of_lists (by simp [State.restart]))

theorem State.decideRequest_leaves (r : Request) (s : State) : s.LeavesLists (s.decideRequest r) := by
  cases r with
  | timeSet h => exact s.timeSet_leaves h
  | timeStep m => exact s.timeStep_leaves m
  | clockSet mode d => exact s.clockSet_leaves mode d
  | lineSet r => exact s.lineSet_leaves r
  | lineClear set => exact s.lineClear_leaves set
  | servicePut r => exact s.ask_leaves (World.servicePut_leaves r)
  | serviceAmend r => exact s.ask_leaves (World.serviceAmend_leaves r)
  | serviceDrop code => exact s.ask_leaves (World.serviceDrop_leaves code)
  | textPut index chars => exact s.ask_leaves (World.textPut_leaves index chars)
  | textDrop index => exact s.ask_leaves (World.textDrop_leaves index)
  | lifecycleSet r => exact s.ask_leaves (World.lifecycleSet_leaves r)
  | noticePut r => exact s.ask_leaves (World.noticePut_leaves r)
  | noticeDrop id => exact s.ask_leaves (World.noticeDrop_leaves id)
  | viewSet n a b c d => exact s.ask_leaves (World.viewSet_leaves n a b c d)
  | composeSet m => exact s.ask_leaves (World.composeSet_leaves m)
  | batchOpen => exact s.ask_leaves World.openBatch_leaves
  | batchClose => exact s.ask_leaves World.closeBatch_leaves
  | commitSet r => exact s.ask_leaves (World.commitSet_leaves r)
  | stringSet r => exact s.ask_leaves (World.stringSet_leaves r)
  | linkTest n => exact s.ask_leaves (World.linkTest_leaves n)
  | policySet r => exact s.ask_leaves (World.policySet_leaves r)
  | zoneMapSet p c => exact s.ask_leaves (World.zoneMapSet_leaves p c)
  | cuePut r => exact s.ask_leaves (World.cuePut_leaves r)
  | cueCancel h => exact s.ask_leaves (World.cueCancel_leaves h)
  | auSet a b c => exact s.ask_leaves (World.auSet_leaves a b c)
  | dialLineSet l en width => exact s.dialLineSet_leaves l en width
  | dialSet l d p => exact s.dialSet_leaves l d p
  | query a b c d => exact s.ownQuery_leaves a b c d
  | restart => exact s.keepsLists_restart
  | linkSet rate => exact s.linkSet_leaves rate
  | malformed => trivial
  | unknownKind => trivial

theorem State.keepsLists_answer {s : State} {v : Verdict State} (h : s.LeavesLists v) (q : QueuedRequest) :
    s.KeepsLists (s.answer q v) := by
  cases v with
  | refuse => exact s.keepsLists_setLink _
  | take _ _ left => exact State.KeepsLists.trans h (left.keepsLists_setLink _)

theorem State.keepsLists_dispatchNext (s : State) : s.KeepsLists s.dispatchNext := by
  unfold State.dispatchNext
  split
  · exact (s.keepsLists_setLink _).trans (State.keepsLists_answer (State.decideRequest_leaves ..) _)
  · exact .refl _

theorem State.keepsLists_lose (cause : LossCause) (kind tag : Nat) (s : State) : s.KeepsLists (s.lose cause kind tag) :=
  .of_lists rfl

theorem State.keepsLists_arrive (kind tag : Nat) (r : Request) (s : State) : s.KeepsLists (s.arrive kind tag r) := by
  unfold State.arrive
  split
  · exact (s.keepsLists_setLink _).trans (State.keepsLists_dispatchNext _)
  · exact State.keepsLists_lose ..

theorem State.keepsLists_character (c : RxChar) (s : State) : s.KeepsLists (s.character c) := by
  simp only [State.character]
  split
  · exact s.keepsLists_setLink _
  · exact (s.keepsLists_setLink _).trans (State.keepsLists_arrive ..)
  · exact ((s.keepsLists_setLink _).trans (State.keepsLists_lose ..)).trans (State.keepsLists_close _)

theorem State.keepsLists_gapFound (s : State) : s.KeepsLists s.gapFound := by
  unfold State.gapFound
  split
  · exact .refl _
  · exact (s.keepsLists_setLink _).trans (State.keepsLists_lose ..)

theorem State.keepsLists_frameOut (s : State) : s.KeepsLists s.frameOut := by
  unfold State.frameOut
  split
  · exact .refl _
  · exact s.keepsLists_setLink _
  · exact (s.keepsLists_setLink _).trans (State.keepsLists_dispatchNext _)

theorem State.keepsLists_request (dt tag kind : Nat) (r : Request) (s : State) : s.KeepsLists (s.request dt tag kind r) :=
  State.keepsLists_event (f := fun s => (s.setLink s.link.toHunt).arrive kind tag r)
    (fun s => (s.keepsLists_setLink _).trans (State.keepsLists_arrive ..)) dt s

/-! ## Every command -/

theorem State.keepsLists_channel (n : StringNo) (f : Nat → Channel → Channel) (s : State) : s.KeepsLists (s.channel n f) :=
  State.keepsLists_work_of_lists (fun e w => World.lists_setChannel n (f e.now (w.channel n)) w) s

theorem State.keepsLists_powerOn (s : State) : s.KeepsLists s.powerOn := by
  unfold State.powerOn
  extract_lets w defaults fresh
  have hw : w.lists = ([], []) := World.lists_foldl (fun w n => World.lists_setChannel ..) allStrings World.reset
  have hfresh : s.KeepsLists fresh := World.keepsLists_of_empty hw
  exact hfresh.trans (State.keepsLists_foldl (fun x i => x.keepsLists_setLine ..) allLines fresh)

theorem State.keepsLists_watchOver (s : State) : s.KeepsLists s.watchOver :=
  (s.keepsLists_setTime _).trans (State.keepsLists_reports ..)

theorem State.keepsLists_rise (i : LineNo) (s : State) : s.KeepsLists (s.rise i) := State.keepsLists_hear ..

theorem State.keepsLists_confirmGap (i : LineNo) (s : State) : s.KeepsLists (s.confirmGap i) := State.keepsLists_hear ..

theorem World.keepsLists_auWhole {f : Env → World → World} (h : ∀ e w, World.KeepsLists w (f e w)) (e : Env) (w : World) :
    w.KeepsLists (w.auWhole f e) :=
  (World.KeepsLists.of_lists (World.lists_setRx ..)).trans (h e _)

/-- Characters that come one after another, each heard in its turn. -/
theorem State.keepsLists_characters {α : Type} {f : State → α → State} (h : ∀ (s : State) x, s.KeepsLists (f s x)) (l : List α)
    (dt : Nat) (s : State) : s.KeepsLists (l.foldl f (s.after dt)).close :=
  State.keepsLists_event (State.keepsLists_foldl h l) dt s

/-- Every command keeps the two lists sound. -/
theorem State.keepsLists_ran (c : Instr) (s : State) : s.KeepsLists (ran c s) := by
  cases c
  case powerOnReset => exact s.keepsLists_powerOn
  case timeSet | timeStep | clockSet | lineSet | lineClear | servicePut | serviceAmend | serviceDrop | textPut | textDrop |
      lifecycleSet | noticePut | noticeDrop | viewSet | composeSet | batchOpen | batchClose | commitSet | stringSet | linkTest |
      policySet | zoneMapSet | cuePut | cueCancel | auSet | dialLineSet | dialSet | unknownKind | query | linkSet | restart =>
    exact State.keepsLists_request ..
  case nominalSecond => exact (State.keepsLists_begin ..).trans (State.keepsLists_close _)
  case secondEvent =>
    exact ((State.keepsLists_begin ..).trans <| (State.keepsLists_toBoundary _).trans
      (State.keepsLists_takeBoundary _)).trans (State.keepsLists_close _)
  case watchExpiry => exact State.keepsLists_expiry (fun _ => State.keepsLists_watchOver) ..
  case lineRisingEdge line => exact State.keepsLists_event (State.keepsLists_rise line) ..
  case lineFallingEdge => exact State.keepsLists_event (fun s => s.keepsLists_setLine ..) ..
  case lineRearmed => exact State.keepsLists_expiry (fun _ s => s.keepsLists_setLine ..) ..
  case gapConfirmed line => exact State.keepsLists_expiry (fun _ => State.keepsLists_confirmGap line) ..
  case qualificationTime line =>
    exact State.keepsLists_expiry (fun _ s => s.keepsLists_hear line (s.lines[line].qualify (lineNumber line) s.time.elapsed)) ..
  case maxHighPassed line =>
    exact State.keepsLists_expiry (fun _ s => s.keepsLists_hear line (s.lines[line].suspend (lineNumber line) s.time.elapsed)) ..
  case pollTick | frameBegin | frameSent => exact State.keepsLists_expiry (fun _ => State.keepsLists_channel _ _) ..
  case busyReturn => exact State.keepsLists_event (State.keepsLists_channel _ _) ..
  case pageExpiry | settleExpiry | stagingDeadlineExpiry | staggerExpiry | pulseEnd | batchExpired | sweepExpiry | replyTimeout |
      stalled | recovered | cueDelayExpiry | cuePeriodExpiry | cueAging | startTimeout | playLimitExpiry | stopWaitExpiry |
      statusTimerExpiry =>
    exact State.keepsLists_expiry (fun _ => State.keepsLists_work_of_lists fun _ _ => by simp) ..
  case ackStage | status | pauseCode | resumeCode | startSent =>
    exact State.keepsLists_event (State.keepsLists_work_of_lists fun _ _ => by simp) ..
  case playing | refused | stopped | statusReply =>
    exact State.keepsLists_event (State.keepsLists_work (World.keepsLists_auWhole fun _ _ => .of_lists (by simp))) ..
  case done => exact State.keepsLists_event (State.keepsLists_work (World.keepsLists_auWhole (World.keepsLists_auDone _))) ..
  case linkTestResult dt string chars =>
    cases chars with
    | nil => exact State.keepsLists_silence (fun _ => State.keepsLists_work_of_lists fun _ _ => by simp) ..
    | cons => exact State.keepsLists_event (State.keepsLists_work_of_lists fun _ _ => by simp) ..
  case replyGap | auGap => exact State.keepsLists_silence (fun _ => State.keepsLists_work_of_lists fun _ _ => by simp) ..
  case voidReply => exact State.keepsLists_characters (fun s c => s.keepsLists_work_of_lists fun _ _ => by simp) ..
  case auFrameDiscarded => exact State.keepsLists_characters (fun s c => s.keepsLists_work (World.keepsLists_auCharacter c)) ..
  case dialPulseEnd | dialRestEnd => exact State.keepsLists_expiry (fun _ s => s.keepsLists_dial ..) ..
  case requestFrame => exact State.keepsLists_characters (fun s c => s.keepsLists_character c) ..
  case clGap => exact State.keepsLists_silence (fun _ => State.keepsLists_gapFound) ..
  case replySent => exact State.keepsLists_event State.keepsLists_frameOut ..
  case hostReady => exact State.keepsLists_event (fun s => s.keepsLists_setLink _) ..

/-- Every step keeps the two lists sound. -/
theorem step_keepsLists {s t : State} (h : step s = .next t) : s.KeepsLists t := by
  unfold step at h
  split at h
  · cases h
    exact .refl s
  · rename_i c rest _
    have hrest : s.KeepsLists (s.withPending rest) := .of_lists rfl
    obtain rfl := Host.Outcome.next.inj ((exec_ran c _).symm.trans h)
    exact hrest.trans (State.keepsLists_ran c _)

/-- Settles O6: every operation either leaves the two lists as they were, takes entries away, or puts one at its place. -/
theorem everyStepKeepsTheListsInOrder : Obligations.EveryStepKeepsTheListsInOrder :=
  ⟨fun _ _ hs h => (step_keepsLists h).table hs, fun _ _ hs h => (step_keepsLists h).notices hs⟩

end Sys2Proof.Machine
end

section
/-! The slave clock lines (chapter 10): what an evaluation, a pulse's end and a rest's end leave of one line, what the expiry of its
drive timer leaves of the whole state, and the statement O59. -/

namespace Sys2Proof.Machine

/-! ## Distance and state (R174) -/

theorem dialDistance_cast (c dial : Nat) : (dialDistance c dial : Int) = ((c : Int) - dial) % 720 :=
  Int.toNat_of_nonneg (Int.emod_nonneg _ (by decide))

theorem dialState_eq_idle_iff (d : Nat) : dialState d = .idle ↔ d = 0 := by
  unfold dialState; split_ifs <;> simp_all

theorem dialState_eq_pulsing_iff (d : Nat) : dialState d = .pulsing ↔ d = 1 := by
  unfold dialState; split_ifs <;> simp_all

theorem dialState_eq_catchingUp_iff (d : Nat) : dialState d = .catchingUp ↔ 2 ≤ d ∧ d ≤ 659 := by
  unfold dialState; split_ifs <;> simp <;> omega

theorem dialState_eq_holding_iff (d : Nat) : dialState d = .holding ↔ 660 ≤ d := by
  unfold dialState; split_ifs <;> simp <;> omega

/-! ## One line (R174, R175, R176) -/

/-- R175: a pulse begins from QUIET in the two states that ask for one. -/
theorem DialLine.maybePulse_eq (e : Env) (x : DialLine) :
    x.maybePulse e =
      if x.drive = .quiet ∧ (x.state = .pulsing ∨ x.state = .catchingUp) then x.drives .driving e else x := by
  simp [DialLine.maybePulse, and_comm]

theorem DialLine.evaluate_driving (e : Env) {x : DialLine} (h : x.drive = .driving) : x.evaluate e = x := by
  simp [DialLine.evaluate, h]

theorem DialLine.evaluate_stopped {e : Env} {x : DialLine} (h : x.drive ≠ .driving) (hs : e.valid = false ∨ x.enabled = false) :
    x.evaluate e = { x with state := .stopped } := by
  simp [DialLine.evaluate, h, hs]

/-- R174: the line once it has taken up its distance from the present minute and the state that the distance gives. -/
def DialLine.placed (e : Env) (x : DialLine) : DialLine :=
  let d := dialDistance e.dialMinute x.dial
  { x with distance := d, state := dialState d }

@[simp] theorem DialLine.placed_drive (e : Env) (x : DialLine) : (x.placed e).drive = x.drive := rfl
@[simp] theorem DialLine.placed_state (e : Env) (x : DialLine) :
    (x.placed e).state = dialState (dialDistance e.dialMinute x.dial) := rfl

/-- R175: of a line that is evaluated while SET and enabled, a pulse begins exactly at a distance of 1..659. -/
theorem DialLine.evaluate_live {e : Env} {x : DialLine} (h : x.drive ≠ .driving) (hv : e.valid = true) (he : x.enabled = true) :
    x.evaluate e =
      if x.drive = .quiet ∧ 1 ≤ dialDistance e.dialMinute x.dial ∧ dialDistance e.dialMinute x.dial ≤ 659
      then (x.placed e).drives .driving e else x.placed e := by
  have hlive : x.evaluate e = (x.placed e).maybePulse e := by
    simp [DialLine.evaluate, DialLine.placed, h, hv, he]
  have hdue (d : Nat) : (dialState d = .pulsing ∨ dialState d = .catchingUp) ↔ 1 ≤ d ∧ d ≤ 659 := by
    rw [dialState_eq_pulsing_iff, dialState_eq_catchingUp_iff]
    omega
  simp only [hlive, DialLine.maybePulse_eq, DialLine.placed_drive, DialLine.placed_state, hdue]

/-- R174: of a line that is evaluated while SET and enabled, whether a pulse begins or not. -/
theorem DialLine.evaluate_live_fields {e : Env} {x : DialLine} (h : x.drive ≠ .driving) (hv : e.valid = true)
    (he : x.enabled = true) :
    (x.evaluate e).distance = dialDistance e.dialMinute x.dial ∧
      (x.evaluate e).state = dialState (dialDistance e.dialMinute x.dial) ∧ (x.evaluate e).dial = x.dial ∧
      (x.evaluate e).next = x.next ∧ (x.evaluate e).width = x.width ∧ (x.evaluate e).enabled = x.enabled ∧
      (x.evaluate e).pending = x.pending := by
  rw [DialLine.evaluate_live h hv he]
  split <;> exact ⟨rfl, rfl, rfl, rfl, rfl, rfl, rfl⟩

theorem Impulse.flip_eq (p : Impulse) : p.flip = if p = .plus then .minus else .plus := by
  cases p <;> rfl

/-- R175, R176: what a pulse's end makes of a line before it is evaluated: the pending set, or the next minute and the other
polarity, and a rest. -/
theorem DialLine.pulseEnd_eq (e : Env) (x : DialLine) :
    x.pulseEnd e = DialLine.evaluate e (match x.pending with
      | some (dial, next) => { x with
          dial := dial, next := next, pending := none, drive := .resting, timer := some (e.now + x.width * 1000) }
      | none => { x with
          dial := if x.dial = 719 then 0 else (x.dial + 1) % 720
          next := if x.next = .plus then .minus else .plus
          drive := .resting
          timer := some (e.now + x.width * 1000) }) := by
  have hwrap : (if x.dial = 719 then 0 else (x.dial + 1) % 720) = (x.dial + 1) % 720 := by
    split <;> omega
  rw [DialLine.pulseEnd, hwrap, ← Impulse.flip_eq]
  cases x.pending <;> rfl

/-! ## The whole state at the expiry of a drive timer -/

/-- What a command leaves that does nothing but bring time on to x and change slave clock line i. -/
structure State.OnlyDial (s : State) (x : Nat) (i : Fin 4) (f : Env → DialLine → DialLine) (t : State) : Prop where
  time : t.time = s.time.runTo x
  lines : t.lines = s.lines
  refWindows : t.refWindows = s.refWindows
  pending : t.pending = s.pending
  world : t.world = s.world.fresh
  others : ∀ j, j ≠ i → t.dials[j] = s.dials[j]
  dial : t.dials[i] = f t.env s.dials[i]
  link : ∃ rs, t.link = s.link.carries rs

theorem State.onlyDial_close (s : State) (x : Nat) (i : Fin 4) (f : Env → DialLine → DialLine) :
    s.OnlyDial x i f ((s.begin x).dial i f).close where
  time := rfl
  lines := rfl
  refWindows := rfl
  pending := rfl
  world := rfl
  others j hj := (State.setDialLine_dial s i j _).trans (if_neg hj.symm)
  dial := (State.setDialLine_dial s i i _).trans (if_pos rfl)
  link := ⟨_, rfl⟩

/-- R175: the expiry of a drive timer that runs in its drive changes the one line. -/
theorem State.onlyDial_expiry {s : State} {i : Fin 4} {x : Nat} {drive : Drive} (ht : s.dials[i].timer = some x)
    (hd : s.dials[i].drive = drive) (f : Env → DialLine → DialLine) :
    s.OnlyDial x i f (s.expiry (s.dials[i].driveAt drive) fun _ s => s.dial i f) := by
  have hat : s.dials[i].driveAt drive = some x := by rw [DialLine.driveAt, hd, ht, beq_self_eq_true, if_pos rfl]
  rw [State.expiry_some hat]
  exact s.onlyDial_close x i f

/-- A drive timer's expiry finds the elapsed time at the timer, or where it already stands beyond. -/
theorem State.OnlyDial.env_now {s t : State} {x : Nat} {i : Fin 4} {f : Env → DialLine → DialLine} (h : s.OnlyDial x i f t) :
    t.env.now = max s.time.elapsed x := by
  show t.time.elapsed = _
  rw [h.time, TimeBase.runTo_elapsed]

theorem exec_dialPulseEnd (i : Fin 4) (s : State) : exec (.dialPulseEnd i) s =
    .next (s.expiry (s.dials[i].driveAt .driving) fun _ s => s.dial i DialLine.pulseEnd) := by
  rfl

theorem exec_dialRestEnd (i : Fin 4) (s : State) : exec (.dialRestEnd i) s =
    .next (s.expiry (s.dials[i].driveAt .resting) fun _ s => s.dial i DialLine.restEnd) := by
  rfl

/-! ## O59 -/

/-- Settles O59: an evaluation by its three cases, and the two expiries as a change of the one line that evaluates it. -/
theorem dialsAreEvaluatedAndPulse : Obligations.DialsAreEvaluatedAndPulse := by
  refine ⟨fun x e => ⟨DialLine.evaluate_driving e, DialLine.evaluate_stopped, fun hd hv he => ?live⟩,
    fun s i x ht => ⟨fun hd => ?pulse, fun hd => ?rest⟩⟩
  case live =>
    have hcast : (dialDistance e.dialMinute x.dial : Int) = (((e.minute % 720 : Nat) : Int) - x.dial) % 720 :=
      dialDistance_cast ..
    obtain ⟨hdist, hstate, hdial, hnext, hwidth, hen, hpend⟩ := DialLine.evaluate_live_fields hd hv he
    have hlive := DialLine.evaluate_live hd hv he
    rw [← hcast, hdist, hstate, dialState_eq_idle_iff, dialState_eq_pulsing_iff, dialState_eq_catchingUp_iff,
      dialState_eq_holding_iff]
    refine ⟨rfl, hdial, hnext, hwidth, hen, hpend, by omega, by omega, by omega, by omega,
      fun hq hlo hhi => ?_, fun hno => ?_⟩
    · rw [hlive, if_pos ⟨hq, by omega, by omega⟩]
      exact ⟨rfl, rfl⟩
    · rw [hlive, if_neg fun ⟨hq, hlo, hhi⟩ => hno ⟨hq, by omega, by omega⟩]
      exact ⟨rfl, rfl⟩
  case pulse =>
    have h := State.onlyDial_expiry ht hd DialLine.pulseEnd
    have hdial := h.dial.trans (DialLine.pulseEnd_eq ..)
    rw [h.env_now] at hdial
    obtain ⟨rs, hlink⟩ := h.link
    exact ⟨_, rs, exec_dialPulseEnd i s, ⟨h.time, h.lines, h.refWindows, h.pending, h.world, h.others⟩, hlink, hdial⟩
  case rest =>
    have h := State.onlyDial_expiry ht hd DialLine.restEnd
    obtain ⟨rs, hlink⟩ := h.link
    exact ⟨_, rs, exec_dialRestEnd i s, ⟨h.time, h.lines, h.refWindows, h.pending, h.world, h.others⟩, hlink, h.dial⟩

end Sys2Proof.Machine
end
